-- ==== Sys2Proof/Word.lean ====
section
/-! DEFINITION. The value widths of the engine (`00_scope.md` R9, R12; `41_bitops.md` R128). Every value is an
unsigned bit vector of one stated width, and a mismatch of widths is a type error. -/

namespace Sys2Proof

/-- One byte of a command frame, a response frame, a key, an IV or a block (R12). -/
abbrev Byte := BitVec 8

/-- A 64-bit block, key or chaining value: eight bytes joined big-endian (R53). -/
abbrev Block := BitVec 64

/-- A left or right half of a block, `HALF_BITS` = 32 (R9, R33). -/
abbrev Half := BitVec 32

/-- A half `C` or `D` of the key schedule, `CD_BITS` = 28 (R9, R32). -/
abbrev KeyHalf := BitVec 28

/-- A round subkey: `SUBKEY_BITS` = 48 significant bits (R9, R24). -/
abbrev Subkey := BitVec 48

/-- One 6-bit group of the round function (R123). -/
abbrev Group := BitVec 6

/-- One 4-bit output of an S-box (R124, R126). -/
abbrev Nibble := BitVec 4

/-- The RoundKeySet `K[0..15]`: sixteen subkeys (R24). -/
abbrev RoundKeys := Vector Subkey 16

end Sys2Proof
end

