-- ==== Sys2Proof/Syntax.lean ====
section
/-! DEFINITION. The seven commands of the engine with their operands (`30_encoding.md` R70 to R76, R79;
`opcode_table.json`). Byte strings are lists of bytes, because the specification lets their lengths vary so that the
length errors can be raised (R71). -/

namespace Sys2Proof

/-- The Direction of a transform instance (`10_state.md` R22). -/
inductive Direction where
  | encrypt
  | decrypt
  deriving DecidableEq, Repr, Inhabited

/-- The `mode` operand of `CONFIG`: CBC, or some mode other than CBC under the code it was asked for (R76). -/
inductive CipherMode where
  | cbc
  | other (code : Byte)
  deriving DecidableEq, Repr

/-- The `pad` operand of `CONFIG`: zero-fill, or some other padding under the code it was asked for (R76). -/
inductive Padding where
  | zeroFill
  | other (code : Byte)
  deriving DecidableEq, Repr

/-- The commands, one constructor per row of `opcode_table.json` (R79). -/
inductive Instr where
  /-- `CONSTRUCT dir, key, iv` (opcode `0x01`, R181). -/
  | construct (dir : Direction) (key iv : List Byte)
  /-- `XFORM data` (opcode `0x02`, R182). -/
  | xform (data : List Byte)
  /-- `XFINAL data` (opcode `0x03`, R185). -/
  | xfinal (data : List Byte)
  /-- `DISPOSE` (opcode `0x04`, R186). -/
  | dispose
  /-- `ISWEAK key` (opcode `0x05`, R170). -/
  | isweak (key : List Byte)
  /-- `ISSEMIWEAK key` (opcode `0x06`, R171). -/
  | issemiweak (key : List Byte)
  /-- `CONFIG mode, pad` (opcode `0x07`, R195). -/
  | config (mode : CipherMode) (pad : Padding)
  deriving DecidableEq, Repr

end Sys2Proof
end

