-- ==== Sys2Proof/Config.lean ====
section
/-! DEFINITION. What is fixed for the engine (R9), the types of its open parameters (R10: `TABLES`, `WEAK_SET`,
`SEMIWEAK_SET`, `Random`, `T_CMD`), and the free values of the model. The contents of the tables and of the two sets
are in `Machine/Tables.lean` and `Machine/Classify.lean`. -/

namespace Sys2Proof

/-! ## Fixed parameters (R9) -/

/-- `BLOCK_BYTES`. -/
def Config.blockBytes : Nat := 8

/-- `KEY_BYTES`. -/
def Config.keyBytes : Nat := 8

/-- `IV_BYTES`. -/
def Config.ivBytes : Nat := 8

/-- `ROUNDS`. -/
def Config.rounds : Nat := 16

/-- `MULTI_BLOCK`: "every call processes exactly one logical block" (R9, R188). -/
def Config.multiBlock : Bool := false

@[simp] theorem Config.blockBytes_eq : Config.blockBytes = 8 := rfl
@[simp] theorem Config.keyBytes_eq : Config.keyBytes = 8 := rfl
@[simp] theorem Config.ivBytes_eq : Config.ivBytes = 8 := rfl

/-! ## The types of `TABLES`, `WEAK_SET` and `SEMIWEAK_SET` (R10, R51) -/

/-- An entry of the rotation schedule, 1 or 2 (R116). The rotation has no meaning for another count (R125), and this
type has no other count (DEDUCED, safe: assumption log 17). -/
inductive Shift where
  | one
  | two
  deriving DecidableEq, Repr

/-- One S-box: 4 rows of 16 columns of 4-bit entries (R51). -/
abbrev SBox := Vector (Vector Nibble 16) 4

/-- `TABLES`: the sixteen read-only table spaces of R51. An entry of a permutation table is a bit position counted
from 1 at the most significant bit (R100). -/
structure Tables where
  ip : Vector Nat 64
  fp : Vector Nat 64
  ep : Vector Nat 48
  p : Vector Nat 32
  pc1l : Vector Nat 28
  pc1r : Vector Nat 28
  pc2 : Vector Nat 48
  rot : Vector Shift 16
  sbox : Vector SBox 8
  deriving DecidableEq, Repr

/-- `WEAK_SET` and `SEMIWEAK_SET` (R172, R173, R177): 64-bit constants, compared on all bits (R174). -/
structure KeySets where
  /-- `WEAK_SET`. -/
  weak : List Block
  /-- `SEMIWEAK_SET`. -/
  semiWeak : List Block
  deriving DecidableEq, Repr

/-- The open parameters that a command reads: `TABLES`, `WEAK_SET` and `SEMIWEAK_SET` (R10, R177). The meanings of the
commands take them as an argument, so that a claim can say which tables and which sets it assumes. -/
structure Params where
  /-- `TABLES`. -/
  tables : Tables
  /-- `WEAK_SET` and `SEMIWEAK_SET`. -/
  keySets : KeySets
  deriving DecidableEq, Repr

/-! ## Free values

DESIGN CHOICE (assumption log 1 to 3; safe but for log 1). Each is a constant with no body: nothing constrains it. The
first argument of the first three is the counter `State.draws`, the second is what the register held before, so that a
claim can neither name the value nor conclude that the old content is gone (R37, R240, R241; `93_implementation_defined.md` U11). -/

/-- What `DIR` holds where the specification says it holds no value. -/
opaque Config.freeDir : Nat → Direction → Direction

/-- What `CHAIN` holds where the specification says it holds no value. -/
opaque Config.freeChain : Nat → Block → Block

/-- What `K[0..15]` hold where the specification says they hold no value. -/
opaque Config.freeKeys : Nat → RoundKeys → RoundKeys

/-- `Random(n)`: the injected source (R197), an oracle outside the engine. The second argument counts its draws.
DESIGN CHOICE, safe (assumption log 9). -/
opaque Config.random : (n : Nat) → Nat → Vector Byte n

/-- `T_CMD`: the time a command takes, which no rule reads (R10, R250). Nothing in the model reads it either.
DESIGN CHOICE, safe (assumption log 14). -/
opaque Config.tCmd : Instr → Nat

end Sys2Proof
end

