-- ==== Sys2Proof/Machine/Flags.lean ====
section
/-! DEFINITION. The engine has no condition codes (`10_state.md` R26): the outcome of a command is one status value,
returned in its response frame and not stored (`30_encoding.md` R77, R79; `60_exceptions.md` R210). -/

namespace Sys2Proof.Machine

/-- The status of a response: `OK` or one of the eight errors of R210. -/
inductive Status where
  | ok
  | invalidKeySize
  | invalidIVSize
  | weakKey
  | semiWeakKey
  | invalidBlockLength
  | incompleteFinalBlock
  | unsupportedPaddingMode
  | unsupportedCipherMode
  deriving DecidableEq, Repr

/-- The status byte (R79, R210). -/
def statusByte : Status → Byte
  | .ok => 0x00
  | .invalidKeySize => 0x01
  | .invalidIVSize => 0x02
  | .weakKey => 0x03
  | .semiWeakKey => 0x04
  | .invalidBlockLength => 0x05
  | .incompleteFinalBlock => 0x06
  | .unsupportedPaddingMode => 0x07
  | .unsupportedCipherMode => 0x08

/-- A response frame: the status byte, the length byte `m`, `m` data bytes (R77). -/
def responseFrame (st : Status) (data : List Byte) : List Byte :=
  statusByte st :: BitVec.ofNat 8 data.length :: data

/-- The data byte of a boolean result: `0x01` for true, `0x00` for false (R77). -/
def boolByte (b : Bool) : Byte := if b then 0x01 else 0x00

end Sys2Proof.Machine
end

