-- ==== Sys2Proof/Machine/State.lean ====
section
/-! DEFINITION. The state of one engine (`10_state.md` R20 to R24, R37), its host's side of the interface
(`70_reset_and_hazards.md` R251, R252), and how a step can stop. -/

namespace Sys2Proof.Machine

/-- `LIFE`, the lifecycle register (R23). -/
inductive Life where
  /-- No transform instance exists. -/
  | empty
  /-- A transform instance exists. -/
  | ready
  /-- The instance was disposed. -/
  | disposed
  /-- A programming-error fault occurred; only reset leaves this value (R221, R240). -/
  | faulted
  deriving DecidableEq, Repr

/-- The faults of R221, a closed list. Taking one is a step to a next state with `LIFE = Faulted`. -/
inductive FaultReason where
  /-- `CONSTRUCT`, `XFORM`, `XFINAL` or `DISPOSE` with `LIFE = Disposed`. -/
  | useAfterDispose
  /-- `XFORM`, `XFINAL` or `DISPOSE` with `LIFE = Empty`. -/
  | notConstructed
  /-- `CONSTRUCT` with `LIFE = Ready`. -/
  | alreadyConstructed
  /-- A reserved or malformed frame in any state but `Faulted`. -/
  | badFrame
  deriving DecidableEq, Repr

/-- What the host can do to the engine in one step (R252). -/
inductive HostEvent where
  /-- The host sends one frame, well-formed or not. -/
  | frame (bytes : List Byte)
  /-- The host applies reset (R240). -/
  | reset
  deriving DecidableEq, Repr

/-- Why the machine stops with no next state. -/
inductive Fault where
  /-- Raised by every command when `LIFE = Faulted`: "In `Faulted` no command has a step" (R221, R190). The step of the
  machine does not run the command of a frame that comes there (R252), so no step raises it. Safe: nothing can be proved of the engine after it. DESIGN CHOICE (assumption log 4). -/
  | noStepWhenFaulted
  deriving DecidableEq, Repr

/-- Why a command has no meaning. -/
inductive Refusal where
  /-- Raised by no arm: every command of the table is modelled. It would be safe. -/
  | notModelled (mnemonic : String)
  deriving DecidableEq, Repr

/-- One engine between commands. `life`, `dir`, `chain` and `keys` are the complete state the specification gives it
(R20); the other fields are the model's own. -/
structure State where
  /-- `LIFE` (R23). -/
  life : Life
  /-- `DIR` (R22). -/
  dir : Direction
  /-- `CHAIN` (R21). -/
  chain : Block
  /-- `K[0..15]` (R24). -/
  keys : RoundKeys
  /-- What the host will do, next event first (R251). DESIGN CHOICE, safe (assumption log 5). -/
  inbox : List HostEvent
  /-- The response frames returned so far, oldest first: the observation of the run (R77, R251).
  DEDUCED, safe (assumption log 6). -/
  outbox : List (List Byte)
  /-- The reason of the fault that set `LIFE = Faulted` (R221). No operation reads it.
  DESIGN CHOICE, safe (assumption log 7). -/
  faultReason : Option FaultReason
  /-- How many free values were drawn; it makes each draw of `Config` a fresh one. DESIGN CHOICE, safe
  (assumption log 7). -/
  draws : Nat
  deriving DecidableEq, Repr

/-- The engine right after reset (R240): `LIFE = Empty`; `DIR`, `CHAIN` and every `K[r]` hold no value the
specification names, so each is a free value: DESIGN CHOICE, UNSAFE (assumption log 1). The host has sent nothing and got nothing. -/
def State.reset : State where
  life := .empty
  dir := Config.freeDir 0 .encrypt
  chain := Config.freeChain 0 0
  keys := Config.freeKeys 0 (Vector.replicate 16 0)
  inbox := []
  outbox := []
  faultReason := none
  draws := 1

end Sys2Proof.Machine
end

