-- ==== Sys2Proof/Machine/Ops.lean ====
section
/-! DEFINITION. The named operations over the registers, the two ways a command ends other than well (an error is a
response, `60_exceptions.md` R219; a fault is a state, R221), reset (`70_reset_and_hazards.md` R240) and the lifecycle
table (`45_cbc.md` R190). -/

namespace Sys2Proof.Machine

/-! ## Register writes -/

/-- `LIFE <- l`. -/
def State.setLife (l : Life) (s : State) : State := { s with life := l }

/-- `DIR <- d`. -/
def State.setDir (d : Direction) (s : State) : State := { s with dir := d }

/-- `CHAIN <- c`. -/
def State.setChain (c : Block) (s : State) : State := { s with chain := c }

/-- `K[0..15] <- k`. -/
def State.setKeys (k : RoundKeys) (s : State) : State := { s with keys := k }

/-- `K[r] <- 0` for `r` in 0..15, all 48 bits of each (R186, R181 step 6). -/
def State.clearKeys (s : State) : State := { s with keys := Vector.replicate 16 0 }

/-- `CHAIN` and `DIR` hold no value from here on (R186, R37): each takes a free value. DESIGN CHOICE, safe (assumption
log 2). -/
def State.dropChainAndDir (s : State) : State :=
  { s with chain := Config.freeChain s.draws s.chain, dir := Config.freeDir s.draws s.dir, draws := s.draws + 1 }

/-! ## The host's side -/

/-- The engine returns one response frame (R77). -/
def State.emit (frame : List Byte) (s : State) : State := { s with outbox := s.outbox ++ [frame] }

/-- What is left of the host's events after the next one. -/
def State.setInbox (events : List HostEvent) (s : State) : State := { s with inbox := events }

/-- The host sends a frame before everything else it was going to do. -/
def State.offerFrame (bytes : List Byte) (s : State) : State := { s with inbox := .frame bytes :: s.inbox }

/-! ## How a command ends -/

/-- Status `OK` with the emitted data (R77). -/
def succeed (data : List Byte) (s : State) : State := s.emit (responseFrame .ok data)

/-- `raise E`: the response carries the error's code and no data; no register is written (R219, R220). -/
def raiseError (e : Status) (s : State) : State := s.emit (responseFrame e [])

/-- `fault F`: `LIFE <- Faulted`, no response, every other register as it was (R221; DEDUCED, safe:
assumption log 19). -/
def raiseFault (r : FaultReason) (s : State) : State := { s with life := .faulted, faultReason := some r }

/-- Reset, in any lifecycle state (R240): `LIFE = Empty`; `DIR`, `CHAIN` and `K[0..15]` hold no value, so each takes a
free value that may depend on what it held (`91_not_in_source.md` N15). DESIGN CHOICE, safe (assumption log 3). The
responses returned before stay in `outbox`, and the run goes on: DESIGN CHOICE, safe (assumption log 21). -/
def applyReset (s : State) : State :=
  { s with
    life := .empty
    dir := Config.freeDir s.draws s.dir
    chain := Config.freeChain s.draws s.chain
    keys := Config.freeKeys s.draws s.keys
    faultReason := none
    draws := s.draws + 1 }

/-! ## The lifecycle table (R190) -/

/-- The columns of the lifecycle table. -/
inductive CommandKind where
  /-- `CONSTRUCT`. -/
  | construct
  /-- `XFORM`, `XFINAL`. -/
  | transform
  /-- `DISPOSE`. -/
  | dispose
  /-- `ISWEAK`, `ISSEMIWEAK`, `CONFIG`. -/
  | stateless
  deriving DecidableEq, Repr

/-- The cells of the lifecycle table. -/
inductive Admission where
  | runs
  | faults (r : FaultReason)
  | noStep
  deriving DecidableEq, Repr

/-- The lifecycle table, row by row (R190). -/
def admission (l : Life) (k : CommandKind) : Admission :=
  match l, k with
  | .empty, .construct => .runs
  | .empty, .transform => .faults .notConstructed
  | .empty, .dispose => .faults .notConstructed
  | .empty, .stateless => .runs
  | .ready, .construct => .faults .alreadyConstructed
  | .ready, .transform => .runs
  | .ready, .dispose => .runs
  | .ready, .stateless => .runs
  | .disposed, .construct => .faults .useAfterDispose
  | .disposed, .transform => .faults .useAfterDispose
  | .disposed, .dispose => .faults .useAfterDispose
  | .disposed, .stateless => .runs
  | .faulted, .construct => .noStep
  | .faulted, .transform => .noStep
  | .faulted, .dispose => .noStep
  | .faulted, .stateless => .noStep

/-- Runs the body of a command of kind `k` where the lifecycle table lets it run, and otherwise does what the table's
cell says (R190, R222). -/
def gated (k : CommandKind) (body : State → State) (s : State) : Host.Outcome State Fault Refusal :=
  match admission s.life k with
  | .runs => .next (body s)
  | .faults r => .next (raiseFault r s)
  | .noStep => .fault .noStepWhenFaulted

end Sys2Proof.Machine
end

