-- ==== Sys2Proof/Machine/Configure.lean ====
section
/-! DEFINITION. The read-only parameter registers (`10_state.md` R28) and the check of a request against them
(`45_cbc.md` R195). -/

namespace Sys2Proof.Machine

/-- The read-only parameter registers (R28, R4). They are hardwired: no command writes them, so they are a constant
and no part of `State`: DEDUCED, safe (assumption log 18). -/
structure ParamRegs where
  /-- `BLOCK_SIZE`, in bits. -/
  blockSize : Nat
  /-- `KEY_SIZE`, in bits. -/
  keySize : Nat
  /-- The effective bits of `KEY_SIZE`. -/
  effectiveKeySize : Nat
  /-- `MODE`. -/
  mode : CipherMode
  /-- `PADDING`. -/
  padding : Padding
  deriving DecidableEq, Repr

/-- The values of the parameter registers (R28). -/
def paramRegs : ParamRegs where
  blockSize := 64
  keySize := 64
  effectiveKeySize := 56
  mode := .cbc
  padding := .zeroFill

/-- The two tests of `CONFIG`, the mode first (decision D5: assumption log 16); nothing is written (R195). -/
def configBody (mode : CipherMode) (pad : Padding) (s : State) : State :=
  if mode ≠ paramRegs.mode then raiseError .unsupportedCipherMode s
  else if pad ≠ paramRegs.padding then raiseError .unsupportedPaddingMode s
  else succeed [] s

/-- `CONFIG mode, pad` (R195). -/
def execConfig (mode : CipherMode) (pad : Padding) (s : State) : Host.Outcome State Fault Refusal :=
  gated .stateless (configBody mode pad) s

end Sys2Proof.Machine
end

