-- ==== Sys2Proof/Machine/BitOps.lean ====
section
/-! DEFINITION. The primitive datapath operations (`41_bitops.md` R120 to R126), all pure. -/

namespace Sys2Proof.Machine

/-- `v{p}`: the bit at position `p`, counted from 1 at the most significant bit (`00_scope.md` R11 (a)). -/
def bitAt {w : Nat} (v : BitVec w) (p : Nat) : Bool := v.getMsbD (p - 1)

/-- `Join(b)` of `n` bytes: big-endian, byte 0 in the most significant 8 bits (R120). -/
def join (n : Nat) (b : List Byte) : BitVec (8 * n) :=
  BitVec.ofNat (8 * n) (b.foldl (fun acc x => 256 * acc + x.toNat) 0)

/-- `Split_n(v)`: byte `i` is `v[8*(n-1-i)+7 : 8*(n-1-i)]` (R121). -/
def split (n : Nat) (v : BitVec (8 * n)) : List Byte :=
  (List.range n).map fun i => v.extractLsb' (8 * (n - 1 - i)) 8

/-- `Perm(T, v, W)`: output bit `i` is the source bit that entry `i` names, both counted from the most significant end
(R122). -/
def perm {n w : Nat} (t : Vector Nat n) (v : BitVec w) : BitVec n :=
  BitVec.ofFnBE fun i : Fin n => bitAt v (tab t i)

/-- `Groups6(x)`: eight 6-bit groups, the first from the most significant end (R123). -/
def groups6 (x : Subkey) : Vector Group 8 :=
  Vector.ofFn fun j : Fin 8 => x.extractLsb' (42 - 6 * j.val) 6

/-- The outer index of `SboxIndex(g)`: the first and the last bit of the group, the first the high one (R124). -/
def outerIndex (g : Group) : BitVec 2 := g.extractLsb' 5 1 ++ g.extractLsb' 0 1

/-- The inner index of `SboxIndex(g)`: the middle four bits in their own order (R124). -/
def innerIndex (g : Group) : BitVec 4 := g.extractLsb' 1 4

/-- The count of a shift (R116). -/
def shiftAmount : Shift → Nat
  | .one => 1
  | .two => 2

/-- `Rotl28(v, s)`: cyclic left rotation inside 28 bits (R125). -/
def rotl28 (v : KeyHalf) (s : Shift) : KeyHalf :=
  (v <<< shiftAmount s) ||| (v >>> (28 - shiftAmount s))

/-- `NibbleJoin(n1..n8)`: the first nibble in bits 31..28, the last in bits 3..0 (R126). -/
def nibbleJoin (n : Vector Nibble 8) : Half :=
  n[0] ++ n[1] ++ n[2] ++ n[3] ++ n[4] ++ n[5] ++ n[6] ++ n[7]

end Sys2Proof.Machine
end

