-- ==== Sys2Proof/Machine/Operands.lean ====
section
/-! DEFINITION. Operand assembly (`30_encoding.md` R73, R74): 8-byte operands to 64-bit values and back, and the zero
padding of a short final block. -/

namespace Sys2Proof.Machine

/-- `Join` of the eight bytes of a key, an IV or a block (R73). The commands check the length before they use it. -/
def join8 (b : List Byte) : Block := join 8 b

/-- `Split_8` of a 64-bit result, most significant byte first (R73). -/
def split8 (v : Block) : List Byte := split 8 v

/-- `ZeroPad(data)`: `8 - len(data)` zero bytes appended after the data (R74, R187). -/
def zeroPad (data : List Byte) : List Byte := data ++ List.replicate (Config.blockBytes - data.length) 0

end Sys2Proof.Machine
end

