-- ==== Sys2Proof/Machine/Params.lean ====
section
/-! DEFINITION. The default values of the open parameters `TABLES`, `WEAK_SET` and `SEMIWEAK_SET` (`00_scope.md` R10;
`44_weakkey.md` R172, R173, R177), under which the engine of the host's interface runs. -/

namespace Sys2Proof.Machine

/-- `WEAK_SET` (R172), general knowledge that the specification evaluated: TESTED, unsafe (assumption log 8). -/
def weakSet : List Block :=
  [0x0101010101010101, 0xFEFEFEFEFEFEFEFE, 0x1F1F1F1F0E0E0E0E, 0xE0E0E0E0F1F1F1F1]

/-- The six semi-weak pairs (A, B) (R173): TESTED, unsafe (assumption log 8). -/
def semiWeakPairs : List (Block × Block) :=
  [(0x01FE01FE01FE01FE, 0xFE01FE01FE01FE01),
   (0x1FE01FE00EF10EF1, 0xE01FE01FF10EF10E),
   (0x01E001E001F101F1, 0xE001E001F101F101),
   (0x1FFE1FFE0EFE0EFE, 0xFE1FFE1FFE0EFE0E),
   (0x011F011F010E010E, 0x1F011F010E010E01),
   (0xE0FEE0FEF1FEF1FE, 0xFEE0FEE0FEF1FEF1)]

/-- `WEAK_SET` and `SEMIWEAK_SET`: the second holds the A and the B of every pair (R172, R173). -/
def keySets : KeySets where
  weak := weakSet
  semiWeak := semiWeakPairs.map Prod.fst ++ semiWeakPairs.map Prod.snd

/-- The defaults: the tables of R101 to R116 and the sets of R172 and R173. -/
def params : Params where
  tables := tables
  keySets := keySets

end Sys2Proof.Machine
end

