-- ==== Sys2Proof/Machine/Classify.lean ====
section
/-! DEFINITION. The key classifier and its two commands (`44_weakkey.md` R170 to R175). -/

namespace Sys2Proof.Machine

/-- Membership in `WEAK_SET`, on all 64 bits (R174). -/
def isWeakKey (S : KeySets) (k : Block) : Bool := decide (k ∈ S.weak)

/-- Membership in `SEMIWEAK_SET`, on all 64 bits (R174). -/
def isSemiWeakKey (S : KeySets) (k : Block) : Bool := decide (k ∈ S.semiWeak)

/-- The three classes of keys (R175). -/
inductive KeyClass where
  | weak
  | semiWeak
  | ordinary
  deriving DecidableEq, Repr

/-- The class of a key (R175). -/
def classify (S : KeySets) (k : Block) : KeyClass :=
  if isWeakKey S k then .weak else if isSemiWeakKey S k then .semiWeak else .ordinary

/-- The body shared by the two classification commands: the length check, then one boolean (R170, R171). -/
def classifyBody (test : Block → Bool) (key : List Byte) (s : State) : State :=
  if key.length ≠ Config.keyBytes then raiseError .invalidKeySize s
  else succeed [boolByte (test (join8 key))] s

/-- `ISWEAK key` under given parameters (R170). -/
def isWeakWith (P : Params) (key : List Byte) (s : State) : Host.Outcome State Fault Refusal :=
  gated .stateless (classifyBody (isWeakKey P.keySets) key) s

/-- `ISSEMIWEAK key` under given parameters (R171). -/
def isSemiWeakWith (P : Params) (key : List Byte) (s : State) : Host.Outcome State Fault Refusal :=
  gated .stateless (classifyBody (isSemiWeakKey P.keySets) key) s

/-- `ISWEAK key` (R170). -/
def execIsWeak (key : List Byte) (s : State) : Host.Outcome State Fault Refusal := isWeakWith params key s

/-- `ISSEMIWEAK key` (R171). -/
def execIsSemiWeak (key : List Byte) (s : State) : Host.Outcome State Fault Refusal := isSemiWeakWith params key s

end Sys2Proof.Machine
end

