-- ==== Sys2Proof/Machine/KeySchedule.lean ====
section
/-! DEFINITION. The key-schedule generator (`42_keyschedule.md` R140 to R143). It is total on 64-bit keys (R144). -/

namespace Sys2Proof.Machine

/-- The working registers `C` and `D` (`10_state.md` R32). -/
structure KeyHalves where
  c : KeyHalf
  d : KeyHalf
  deriving DecidableEq, Repr

/-- Step 1: the first key permutation (R141). -/
def keyHalvesStart (T : Tables) (key : Block) : KeyHalves := ⟨perm T.pc1l key, perm T.pc1r key⟩

/-- The rotation of one round, of both halves by the round's amount (R142). -/
def rotateHalves (T : Tables) (h : KeyHalves) (r : Fin 16) : KeyHalves :=
  ⟨rotl28 h.c (tab T.rot r), rotl28 h.d (tab T.rot r)⟩

/-- The halves after rounds `0 .. r`: the rotations accumulate (R142). -/
def keyHalvesAfter (T : Tables) (key : Block) (r : Fin 16) : KeyHalves :=
  ((List.finRange 16).take (r.val + 1)).foldl (rotateHalves T) (keyHalvesStart T key)

/-- The second key permutation on the 56-bit register `C || D` (R142). -/
def selectSubkey (T : Tables) (h : KeyHalves) : Subkey := perm T.pc2 (h.c ++ h.d)

/-- `KeySchedule(key)`: `K[r]` is selected from the halves after round `r` (R142, R143). -/
@[irreducible] def keySchedule (T : Tables) (key : Block) : RoundKeys :=
  Vector.ofFn fun r => selectSubkey T (keyHalvesAfter T key r)

end Sys2Proof.Machine
end

