-- ==== Sys2Proof/Machine/Lifecycle.lean ====
section
/-! DEFINITION. Construction and disposal of the transform instance (`45_cbc.md` R181, R186). -/

namespace Sys2Proof.Machine

/-- The steps of `CONSTRUCT`, in their order (R181; the specification's decisions D10 and D11: assumption log 16). -/
def constructBody (P : Params) (dir : Direction) (key iv : List Byte) (s : State) : State :=
  if key.length ≠ Config.keyBytes then raiseError .invalidKeySize s
  else if isWeakKey P.keySets (join8 key) then raiseError .weakKey s
  else if isSemiWeakKey P.keySets (join8 key) then raiseError .semiWeakKey s
  else
    let scheduled := s.setKeys (keySchedule P.tables (join8 key))
    if iv.length ≠ Config.ivBytes then raiseError .invalidIVSize scheduled.clearKeys
    else succeed [] (((scheduled.setChain (join8 iv)).setDir dir).setLife .ready)

/-- `CONSTRUCT dir, key, iv` under given parameters (R181). -/
def constructWith (P : Params) (dir : Direction) (key iv : List Byte) (s : State) : Host.Outcome State Fault Refusal :=
  gated .construct (constructBody P dir key iv) s

/-- `CONSTRUCT dir, key, iv` (R181). -/
def execConstruct (dir : Direction) (key iv : List Byte) (s : State) : Host.Outcome State Fault Refusal :=
  constructWith params dir key iv s

/-- The steps of `DISPOSE`: the subkeys are zeroed, and `CHAIN` and `DIR` hold no value afterwards (R186). -/
def disposeBody (s : State) : State := succeed [] (s.clearKeys.dropChainAndDir.setLife .disposed)

/-- `DISPOSE` (R186). -/
def execDispose (s : State) : Host.Outcome State Fault Refusal := gated .dispose disposeBody s

end Sys2Proof.Machine
end

