-- ==== Sys2Proof/Machine/Feistel.lean ====
section
/-! DEFINITION. The Feistel datapath (`43_feistel.md` R150 to R156): one 64-bit block under sixteen round keys and a
direction. It is pure and accepts any sixteen subkeys (R150). -/

namespace Sys2Proof.Machine

/-- The working registers `L` and `R` (`10_state.md` R33). -/
structure Halves where
  left : Half
  right : Half
  deriving DecidableEq, Repr

/-- The S-box outputs `n1..n8` of a 48-bit value: group `j` through box `j` (R152). -/
def substitute (T : Tables) (x : Subkey) : Vector Nibble 8 :=
  Vector.ofFn fun j : Fin 8 => sboxEntry T j (outerIndex (tab (groups6 x) j)) (innerIndex (tab (groups6 x) j))

/-- The round function `f(R, k)` (R152). -/
def roundFunction (T : Tables) (right : Half) (k : Subkey) : Half :=
  perm T.p (nibbleJoin (substitute T (perm T.ep right ^^^ k)))

/-- One round, both halves assigned at once from the old values (R153). -/
def feistelRound (T : Tables) (h : Halves) (k : Subkey) : Halves :=
  ⟨h.right, h.left ^^^ roundFunction T h.right k⟩

/-- The order in which the rounds read `K[0..15]`: forward to encrypt, backward to decrypt (R154). -/
def roundOrder : Direction → List (Fin 16)
  | .encrypt => List.finRange 16
  | .decrypt => (List.finRange 16).reverse

/-- Step 1: the initial permutation and the split into two halves (R151). -/
def initialHalves (T : Tables) (block : Block) : Halves :=
  ⟨(perm T.ip block).extractLsb' 32 32, (perm T.ip block).extractLsb' 0 32⟩

/-- The sixteen rounds (R154). -/
def feistelRounds (T : Tables) (keys : RoundKeys) (dir : Direction) (h : Halves) : Halves :=
  (roundOrder dir).foldl (fun h r => feistelRound T h (tab keys r)) h

/-- Step 3: the final swap and the final permutation (R155). -/
def finalBlock (T : Tables) (h : Halves) : Block := perm T.fp (h.right ++ h.left)

/-- `FeistelCore(block, dir)` (R156). -/
@[irreducible] def feistelCore (T : Tables) (keys : RoundKeys) (dir : Direction) (block : Block) : Block :=
  finalBlock T (feistelRounds T keys dir (initialHalves T block))

end Sys2Proof.Machine
end

