-- ==== Sys2Proof/Machine/Transform.lean ====
section
/-! DEFINITION. The CBC block step and the two transform commands (`45_cbc.md` R182 to R185). -/

namespace Sys2Proof.Machine

/-- `BlockStep` in encrypt direction: the XOR before the datapath, `CHAIN` takes the datapath's output (R183). -/
def blockStepEnc (P : Params) (p : Block) (s : State) : Block × State :=
  let c := feistelCore P.tables s.keys .encrypt (p ^^^ s.chain)
  (c, s.setChain c)

/-- `BlockStep` in decrypt direction: the XOR after the datapath with the old `CHAIN`, which then takes the step's
input (R184). -/
def blockStepDec (P : Params) (c : Block) (s : State) : Block × State :=
  let p := feistelCore P.tables s.keys .decrypt c ^^^ s.chain
  (p, s.setChain c)

/-- `BlockStep` in the engine's direction (R182). -/
def blockStep (P : Params) (b : Block) (s : State) : Block × State :=
  match s.dir with
  | .encrypt => blockStepEnc P b s
  | .decrypt => blockStepDec P b s

/-- One block step, answered with the eight bytes it gives (R182, R185). -/
def answerBlock (P : Params) (b : Block) (s : State) : State :=
  let (out, s') := blockStep P b s
  succeed (split8 out) s'

/-- The body of `XFORM` (R182). -/
def xformBody (P : Params) (data : List Byte) (s : State) : State :=
  if data.length = 0 then succeed [] s
  else if data.length ≠ Config.blockBytes then raiseError .invalidBlockLength s
  else answerBlock P (join8 data) s

/-- `XFORM data` under given parameters (R182). -/
def xformWith (P : Params) (data : List Byte) (s : State) : Host.Outcome State Fault Refusal :=
  gated .transform (xformBody P data) s

/-- `XFORM data` (R182). -/
def execXform (data : List Byte) (s : State) : Host.Outcome State Fault Refusal := xformWith params data s

/-- The body of `XFINAL` on 0 to 8 bytes (R185). -/
def xfinalBody (P : Params) (data : List Byte) (s : State) : State :=
  if data.length = 0 then succeed [] s
  else
    match s.dir with
    | .decrypt =>
      if data.length ≠ Config.blockBytes then raiseError .incompleteFinalBlock s else answerBlock P (join8 data) s
    | .encrypt => answerBlock P (join8 (zeroPad data)) s

/-- `XFINAL data` under given parameters (R185). More than 8 bytes are a reserved encoding and fault before the
lifecycle is looked at (`30_encoding.md` R80 (c), `60_exceptions.md` R222). DEDUCED, safe (assumption log 11). -/
def xfinalWith (P : Params) (data : List Byte) (s : State) : Host.Outcome State Fault Refusal :=
  if Config.blockBytes < data.length ∧ s.life ≠ .faulted then .next (raiseFault .badFrame s)
  else gated .transform (xfinalBody P data) s

/-- `XFINAL data` (R185). -/
def execXfinal (data : List Byte) (s : State) : Host.Outcome State Fault Refusal := xfinalWith params data s

end Sys2Proof.Machine
end

