-- ==== Sys2Proof/Machine/Dispatch.lean ====
section
/-! DEFINITION. One arm per command of the opcode table (`30_encoding.md` R79). -/

namespace Sys2Proof.Machine

def exec (i : Instr) (s : State) : Host.Outcome State Fault Refusal :=
  match i with
  | .construct dir key iv => Sys2Proof.Machine.execConstruct dir key iv s
  | .xform data => Sys2Proof.Machine.execXform data s
  | .xfinal data => Sys2Proof.Machine.execXfinal data s
  | .dispose => Sys2Proof.Machine.execDispose s
  | .isweak key => Sys2Proof.Machine.execIsWeak key s
  | .issemiweak key => Sys2Proof.Machine.execIsSemiWeak key s
  | .config mode pad => Sys2Proof.Machine.execConfig mode pad s

end Sys2Proof.Machine
end

