-- ==== Sys2Proof/WellFormed.lean ====
section
/-! DEFINITION. Which commands can be written as a frame (`30_encoding.md` R71, R76, R80, R81). -/

namespace Sys2Proof

/-- A byte string operand fits its one-byte length field: 0 to 255 bytes (R71, R81). -/
def fitsLengthByte (data : List Byte) : Bool := data.length ≤ 255

/-- The code `0x00` means CBC, so a mode other than CBC carries a non-zero code (R76). -/
def CipherMode.wellFormed : CipherMode → Bool
  | .cbc => true
  | .other code => code != 0

/-- The code `0x00` means zero-fill, so another padding carries a non-zero code (R76). -/
def Padding.wellFormed : Padding → Bool
  | .zeroFill => true
  | .other code => code != 0

/-- A command that some frame stands for. The data of `XFINAL` has 0 to 8 bytes (R80 (c), R185); every other byte
string has 0 to 255 (R80, R81). -/
def Instr.wellFormed : Instr → Bool
  | .construct _ key iv => fitsLengthByte key && fitsLengthByte iv
  | .xform data => fitsLengthByte data
  | .xfinal data => data.length ≤ 8
  | .dispose => true
  | .isweak key => fitsLengthByte key
  | .issemiweak key => fitsLengthByte key
  | .config mode pad => mode.wellFormed && pad.wellFormed

end Sys2Proof
end

