-- ==== Sys2Proof/Decode.lean ====
section
/-! DEFINITION. Command frames: the decoder of R78, total on byte strings and rejecting by name (R80), and the encoder
of the seven formats of R72. The opcode and code values are those of `30_encoding.md` (R72, R75, R76, R79). -/

namespace Sys2Proof

/-- Why a byte string is no command frame; each reason ends in the fault `BadFrame` (R78, R80). The names, and which is
named when two apply, are a DESIGN CHOICE, safe (assumption log 12). -/
inductive DecodeError where
  /-- R80 (a): an opcode byte outside `0x01`..`0x07`. -/
  | reservedOpcode
  /-- R80 (b): a `dir` byte outside `0x00`..`0x01`. -/
  | reservedDirection
  /-- R80 (c): an `XFINAL` length byte of 9..255. -/
  | reservedFinalLength
  /-- R80 (d): the frame ends before its last field is complete. -/
  | truncated
  /-- R80 (d): bytes are left over after the last field. -/
  | trailingBytes
  deriving DecidableEq, Repr

/-! ## Fields -/

/-- An enumeration operand `E`, an opcode or a length: one byte (R71). -/
def readByte : List Byte → Except DecodeError (Byte × List Byte)
  | [] => .error .truncated
  | b :: rest => .ok (b, rest)

/-- A byte string operand `B`: one length byte `n`, then `n` data bytes (R71). -/
def readString : List Byte → Except DecodeError (List Byte × List Byte)
  | [] => .error .truncated
  | n :: rest => if n.toNat ≤ rest.length then .ok (rest.take n.toNat, rest.drop n.toNat) else .error .truncated

/-- The data operand of `XFINAL`: a byte string whose length byte is 0..8 (R80 (c)). -/
def readFinalString : List Byte → Except DecodeError (List Byte × List Byte)
  | [] => .error .truncated
  | n :: rest => if n.toNat ≤ 8 then readString (n :: rest) else .error .reservedFinalLength

/-- The direction operand: `0x00` Encrypt, `0x01` Decrypt, every other value reserved (R75). -/
def directionOfByte (b : Byte) : Except DecodeError Direction :=
  match b.toNat with
  | 0 => .ok .encrypt
  | 1 => .ok .decrypt
  | _ => .error .reservedDirection

/-- The mode request: `0x00` CBC, every other value some other mode (R76). -/
def modeOfByte (b : Byte) : CipherMode := if b = 0 then .cbc else .other b

/-- The padding request: `0x00` zero-fill, every other value some other padding (R76). -/
def paddingOfByte (b : Byte) : Padding := if b = 0 then .zeroFill else .other b

/-! ## Frames -/

/-- Reads the fields of the format that an opcode selects (R72, R78), answering the command and the bytes that follow
its last field. -/
def decodeFields (opcode : Byte) (fields : List Byte) : Except DecodeError (Instr × List Byte) :=
  match opcode.toNat with
  | 1 => do
    let (d, rest) ← readByte fields
    let dir ← directionOfByte d
    let (key, rest) ← readString rest
    let (iv, rest) ← readString rest
    .ok (.construct dir key iv, rest)
  | 2 => do
    let (data, rest) ← readString fields
    .ok (.xform data, rest)
  | 3 => do
    let (data, rest) ← readFinalString fields
    .ok (.xfinal data, rest)
  | 4 => .ok (.dispose, fields)
  | 5 => do
    let (key, rest) ← readString fields
    .ok (.isweak key, rest)
  | 6 => do
    let (key, rest) ← readString fields
    .ok (.issemiweak key, rest)
  | 7 => do
    let (m, rest) ← readByte fields
    let (p, rest) ← readByte rest
    .ok (.config (modeOfByte m) (paddingOfByte p), rest)
  | _ => .error .reservedOpcode

/-- The command at the head of a byte string, and the bytes after it. -/
def decodeHead (bytes : List Byte) : Except DecodeError (Instr × List Byte) := do
  let (opcode, fields) ← readByte bytes
  decodeFields opcode fields

/-- Decodes one whole frame: a command with no bytes left over after its last field (R70, R78). -/
def decodeFrame (bytes : List Byte) : Except DecodeError Instr := do
  let (i, rest) ← decodeHead bytes
  if rest = [] then .ok i else .error .trailingBytes

/-! ## The encoder -/

/-- A length byte (R71); the operands of a well-formed command have at most 255 bytes. -/
def lengthByte (data : List Byte) : Byte := BitVec.ofNat 8 data.length

/-- A byte string operand `B` with its length byte before it (R71). -/
def encodeString (data : List Byte) : List Byte := lengthByte data :: data

/-- The code of a direction (R75). -/
def directionByte : Direction → Byte
  | .encrypt => 0x00
  | .decrypt => 0x01

/-- The code of a mode request (R76). -/
def modeByte : CipherMode → Byte
  | .cbc => 0x00
  | .other code => code

/-- The code of a padding request (R76). -/
def paddingByte : Padding → Byte
  | .zeroFill => 0x00
  | .other code => code

/-- The opcode byte of a command (R79). -/
def opcodeByte : Instr → Byte
  | .construct _ _ _ => 0x01
  | .xform _ => 0x02
  | .xfinal _ => 0x03
  | .dispose => 0x04
  | .isweak _ => 0x05
  | .issemiweak _ => 0x06
  | .config _ _ => 0x07

/-- The operand bytes of a command, in the order of its format (R72). -/
def operandBytes : Instr → List Byte
  | .construct dir key iv => directionByte dir :: (encodeString key ++ encodeString iv)
  | .xform data => encodeString data
  | .xfinal data => encodeString data
  | .dispose => []
  | .isweak key => encodeString key
  | .issemiweak key => encodeString key
  | .config mode pad => [modeByte mode, paddingByte pad]

/-- The frame of a command: its opcode, then its operands (R70, R72). -/
def encode (i : Instr) : List Byte := opcodeByte i :: operandBytes i

/-- The length of a command's frame by R72: `4 + kl + il`, `2 + n`, 1, `2 + kl` or 3 bytes. -/
def frameLength : Instr → Nat
  | .construct _ key iv => 4 + key.length + iv.length
  | .xform data => 2 + data.length
  | .xfinal data => 2 + data.length
  | .dispose => 1
  | .isweak key => 2 + key.length
  | .issemiweak key => 2 + key.length
  | .config _ _ => 3

/-! ## Words of the opcode table -/

/-- The byte at an offset of a frame, as a number; zero past its end. -/
def byteAt (bytes : List Byte) (k : Nat) : Nat := (bytes.getD k 0).toNat

/-- How many bytes the frame at the head of a byte string spans, by its opcode and its length bytes (R70, R72). -/
def frameSpan (bytes : List Byte) : Nat :=
  match byteAt bytes 0 with
  | 1 => 4 + byteAt bytes 2 + byteAt bytes (3 + byteAt bytes 2)
  | 2 => 2 + byteAt bytes 1
  | 3 => 2 + byteAt bytes 1
  | 5 => 2 + byteAt bytes 1
  | 6 => 2 + byteAt bytes 1
  | 7 => 3
  | _ => 1

/-- The longest frame: a `CONSTRUCT` with 255 key bytes and 255 IV bytes (R72). -/
def maxFrameLength : Nat := 4 + 255 + 255

/-- The frame whose first `nbits / 8` bytes are `w`, its first byte the least significant, and whose remaining bytes,
as many as its length rule asks for, are zero. -/
def frameOfWord (nbits w : Nat) : List Byte :=
  let given := (List.range (nbits / 8)).map fun k => BitVec.ofNat 8 (w >>> (8 * k))
  let padded := given ++ List.replicate maxFrameLength 0
  padded.take (max given.length (frameSpan padded))

/-- The command that the decoder reads from a word of `opcode_table.json`, if it is one. -/
def decodeTableWord (nbits w : Nat) : Option Instr := (decodeFrame (frameOfWord nbits w)).toOption

end Sys2Proof
end

