-- ==== Sys2Proof/Machine/Fetch.lean ====
section
/-! DEFINITION. How the engine takes what the host sends (`70_reset_and_hazards.md` R251, R252): one event at a time,
each to completion before the next (`20_memory.md` R59). -/

namespace Sys2Proof.Machine

/-- The host's next event, and the engine with that event taken off. -/
def takeEvent (s : State) : Option (HostEvent × State) :=
  match s.inbox with
  | [] => none
  | e :: rest => some (e, s.setInbox rest)

/-- How commands are run: `exec`, or `execWith` under other parameters. -/
abbrev Runner := Instr → State → Host.Outcome State Fault Refusal

/-- A frame. In `Faulted` there is no response and no change (R252); otherwise a frame that does not decode faults
`BadFrame` (R80), and the command of one that does runs. DESIGN CHOICE, safe (assumption log 4): the host's frame is
taken, and no command runs. -/
def runFrame (run : Runner) (bytes : List Byte) (s : State) : Host.Outcome State Fault Refusal :=
  match s.life with
  | .faulted => .next s
  | _ =>
    match decodeFrame bytes with
    | .ok i => run i s
    | .error _ => .next (raiseFault .badFrame s)

/-- One event of the host (R252). -/
def runEvent (run : Runner) (e : HostEvent) (s : State) : Host.Outcome State Fault Refusal :=
  match e with
  | .frame bytes => runFrame run bytes s
  | .reset => .next (applyReset s)

/-- One step of an engine whose commands run as `run` says. With no event waiting the state is unchanged (R252, last
row). -/
def stepBy (run : Runner) (s : State) : Host.Outcome State Fault Refusal :=
  match takeEvent s with
  | none => .next s
  | some (e, s') => runEvent run e s'

end Sys2Proof.Machine
end

