-- ==== Sys2Proof/Machine/Step.lean ====
section
/-! DEFINITION. The step of the engine: the host's next event, or nothing when the host does nothing (R252). -/

namespace Sys2Proof.Machine

/-- One step: the host's next event, its command run by `exec`. -/
def step (s : State) : Host.Outcome State Fault Refusal := stepBy exec s

/-- The state in which the host's next event is the frame of a word of the opcode table (DESIGN CHOICE, safe: assumption
log 5). -/
def State.withFetchWord (s : State) (nbits w : Nat) : State := s.offerFrame (frameOfWord nbits w)

end Sys2Proof.Machine
end

