-- ==== Sys2Proof/Machine/Parametric.lean ====
section
/-! DEFINITION. The engine under any value of the open parameters `TABLES`, `WEAK_SET` and `SEMIWEAK_SET`
(`00_scope.md` R10, `44_weakkey.md` R177): a claim that names its tables or its sets is stated of these. Under `params`
they are `exec` and `step` (`execWith_params`, `stepWith_params`). -/

namespace Sys2Proof.Machine

/-- A command under given parameters. -/
def execWith (P : Params) (i : Instr) (s : State) : Host.Outcome State Fault Refusal :=
  match i with
  | .construct dir key iv => constructWith P dir key iv s
  | .xform data => xformWith P data s
  | .xfinal data => xfinalWith P data s
  | .dispose => execDispose s
  | .isweak key => isWeakWith P key s
  | .issemiweak key => isSemiWeakWith P key s
  | .config mode pad => execConfig mode pad s

/-- A step of an engine with given parameters. -/
def stepWith (P : Params) (s : State) : Host.Outcome State Fault Refusal := stepBy (execWith P) s

end Sys2Proof.Machine
end

