-- ==== Sys2Proof/Machine/System.lean ====
section
/-! DEFINITION. Several engines (`60_exceptions.md` R228): the product of independent engines, each stepped by its own
host in any interleaving. They share the constant tables and nothing else (`10_state.md` R36). -/

namespace Sys2Proof.Machine

/-- The engines of a system, each with its own registers and its own host. -/
abbrev System := List State

/-- Engine `n` takes its next step, and no other engine changes (R228).
DESIGN CHOICE, safe (assumption log 10). -/
def systemStep (n : Nat) (sys : System) : System :=
  match sys[n]? with
  | none => sys
  | some s =>
    match step s with
    | .next s' => sys.set n s'
    | .fault _ => sys
    | .refused _ => sys

end Sys2Proof.Machine
end

