-- ==== Sys2Proof/Machine/HostOps.lean ====
section
/-! DEFINITION. The host's side: the pseudo-operations, each a sequence of commands or of draws and no command of its
own (`30_encoding.md` R83; `45_cbc.md` R197 to R201), and what a host reads from the response frames
(`70_reset_and_hazards.md` R251). -/

namespace Sys2Proof.Machine

/-! ## Streams (R200, R201) -/

/-- The data commands for a message: `q` leading full blocks by `XFORM`, then one `XFINAL` with what remains. -/
def dataCommands : (q : Nat) → (msg : List Byte) → List Instr
  | 0, msg => [.xfinal msg]
  | q + 1, msg => .xform (msg.take 8) :: dataCommands q (msg.drop 8)

/-- How many leading full blocks go by `XFORM`, so that `XFINAL` gets the last 1 to 8 bytes, or none of an empty
message (R200). -/
def leadingBlocks (msg : List Byte) : Nat := (msg.length - 1) / 8

/-- A whole stream in one direction, from construction to disposal. -/
def streamCommands (dir : Direction) (key iv msg : List Byte) : List Instr :=
  .construct dir key iv :: (dataCommands (leadingBlocks msg) msg ++ [.dispose])

/-- `ENCRYPT_STREAM key, iv, msg` (R200). -/
def encryptStream (key iv msg : List Byte) : List Instr := streamCommands .encrypt key iv msg

/-- `DECRYPT_STREAM key, iv, ct` (R201). -/
def decryptStream (key iv ct : List Byte) : List Instr := streamCommands .decrypt key iv ct

/-- The outcome of a sequence of commands, each run to completion before the next (R59). -/
def runBy (run : Runner) : List Instr → State → Host.Outcome State Fault Refusal
  | [], s => .next s
  | i :: rest, s =>
    match run i s with
    | .next s' => runBy run rest s'
    | .fault r => .fault r
    | .refused r => .refused r

/-- The engine's outcome on a sequence of commands. -/
def runCommands (commands : List Instr) (s : State) : Host.Outcome State Fault Refusal := runBy exec commands s

/-- The host sends the frames of a sequence of commands after what it was going to do before (R251). -/
def State.sendAll (commands : List Instr) (s : State) : State :=
  { s with inbox := s.inbox ++ commands.map fun i => .frame (encode i) }

/-! ## What the host reads -/

/-- The data bytes of a response frame (R77). -/
def responseData (frame : List Byte) : List Byte := frame.drop 2

/-- The concatenation of the outputs of a run of responses, in order (R200). -/
def outputData (frames : List (List Byte)) : List Byte := (frames.map responseData).flatten

/-- The response frames that `t` holds and `s` did not, where `t` comes after `s`. -/
def newResponses (s t : State) : List (List Byte) := t.outbox.drop s.outbox.length

/-! ## Keys and initialization vectors (R83, R197 to R199) -/

/-- The loop of R198 over a source of keys, from a draw number and for given sets: repeat until the draw is neither weak
nor semi-weak; the answer holds the key and the number of the next draw. It answers nothing if `fuel` draws were all
refused. DESIGN CHOICE, safe (assumption log 9). -/
def genKeyIn (S : KeySets) (source : Nat → List Byte) : (fuel : Nat) → (draw : Nat) → Option (List Byte × Nat)
  | 0, _ => none
  | fuel + 1, draw =>
    if isWeakKey S (join8 (source draw)) || isSemiWeakKey S (join8 (source draw))
    then genKeyIn S source fuel (draw + 1)
    else some (source draw, draw + 1)

/-- The loop of R198 with the sets of R172 and R173. -/
def genKeyFrom (source : Nat → List Byte) (fuel draw : Nat) : Option (List Byte × Nat) :=
  genKeyIn keySets source fuel draw

/-- The two questions that `GENKEY` asks the engine about a draw (R83). -/
def askClasses (key : List Byte) : List Instr := [.isweak key, .issemiweak key]

/-- The response to `ISWEAK` or `ISSEMIWEAK` that answers false (R77). -/
def answerFalse : List Byte := responseFrame .ok [boolByte false]

/-- `GENKEY` as the sequence of commands it is: draw; `ISWEAK`; `ISSEMIWEAK`; repeat until both answer false (R83). It
answers the key found with the number of the next draw, or nothing after `fuel` draws, and the engine as the commands
left it; it stops where a command has no step, in `Faulted`. DESIGN CHOICE, safe (assumption log 9). -/
def genKeyBy (run : Runner) (source : Nat → List Byte) :
    (fuel draw : Nat) → State → Host.Outcome (Option (List Byte × Nat) × State) Fault Refusal
  | 0, _, s => .next (none, s)
  | fuel + 1, draw, s =>
    match runBy run (askClasses (source draw)) s with
    | .next t =>
      if newResponses s t = [answerFalse, answerFalse] then .next (some (source draw, draw + 1), t)
      else genKeyBy run source fuel (draw + 1) t
    | .fault r => .fault r
    | .refused r => .refused r

/-- `Random(8)`: eight bytes of the injected source (R197). -/
def random8 (draw : Nat) : List Byte := (Config.random 8 draw).toList

/-- `GENKEY` (R83, R198). -/
def genKey (fuel draw : Nat) (s : State) : Host.Outcome (Option (List Byte × Nat) × State) Fault Refusal :=
  genKeyBy exec random8 fuel draw s

/-- `GENIV` (R199). -/
def genIv (draw : Nat) : List Byte × Nat := (random8 draw, draw + 1)

end Sys2Proof.Machine
end

