-- ==== Sys2Proof/Safety.lean ====
section
/-! DEFINITION. The terms in which claims speak of safe runs: the invariants of the registers (`10_state.md` R35, R37),
the shape of the observation (`30_encoding.md` R77), the structural checks of the tables (`40_tables.md` R117), the
ends of a run (`70_reset_and_hazards.md` R251) and the CBC recurrence (`45_cbc.md` R189). -/

namespace Sys2Proof.Safety

open Sys2Proof.Machine

/-! ## Registers -/

/-- A key that `CONSTRUCT` accepts: neither weak nor semi-weak (R175, R176). -/
def ordinaryKey (k : Block) : Prop := classify keySets k = .ordinary

/-- While `LIFE = Ready`, `K[0..15]` is the schedule of an ordinary key (R35 (a), (b)). -/
def ReadyKeysScheduled (s : State) : Prop :=
  s.life = .ready → ∃ k : Block, ordinaryKey k ∧ s.keys = keySchedule tables k

/-- While `LIFE = Disposed`, every `K[r]` is zero (R37). -/
def DisposedKeysZero (s : State) : Prop :=
  s.life = .disposed → s.keys = Vector.replicate 16 0

/-- A fault reason is recorded exactly while `LIFE = Faulted` (R221). -/
def FaultReasonMatches (s : State) : Prop := s.life = .faulted ↔ s.faultReason ≠ none

/-- Every response frame is a status byte, a length byte and at most 8 data bytes, and an error carries none (R77). -/
def ResponsesWellFormed (s : State) : Prop :=
  ∀ f ∈ s.outbox, ∃ st data, f = responseFrame st data ∧ data.length ≤ 8 ∧ (st ≠ .ok → data = [])

/-- The invariant of the engine between commands. -/
structure Inv (s : State) : Prop where
  readyKeys : ReadyKeysScheduled s
  disposedKeys : DisposedKeysZero s
  faultReason : FaultReasonMatches s
  responses : ResponsesWellFormed s

/-! ## Runs -/

/-- No fault occurred, the premise of every claim about a command stream (R221). -/
def NoFault (s : State) : Prop := s.life ≠ .faulted

/-- The run has ended: the host has no further command, and the engine is not `Faulted` (R251). -/
def Final (s : State) : Prop := s.inbox = [] ∧ NoFault s

/-- A well-formed run ends `Disposed` (R251). -/
def EndsDisposed (s : State) : Prop := Final s ∧ s.life = .disposed

/-- What the host has seen of a run: the response frames, if the run did not stop (R251). -/
def observation : Host.Outcome State Fault Refusal → Option (List (List Byte))
  | .next t => some t.outbox
  | .fault _ => none
  | .refused _ => none

/-! ## Tables (R117) -/

/-- The bit positions 1 to `w` (R11). -/
def positions (w : Nat) : List Nat := List.range' 1 w

/-- Every entry names a bit of a source of width `w` (R100). -/
def EntriesIn {n : Nat} (t : Vector Nat n) (w : Nat) : Prop := ∀ i : Fin n, 1 ≤ tab t i ∧ tab t i ≤ w

/-- The structural facts of R117, (a) to (g) in order. -/
structure TablesStructural (T : Tables) : Prop where
  ipPermutation : T.ip.toList.Perm (positions 64)
  fpPermutation : T.fp.toList.Perm (positions 64)
  pPermutation : T.p.toList.Perm (positions 32)
  fpInvertsIp : ∀ i : Fin 64, T.fp[tab T.ip i - 1]? = some (i.val + 1)
  epRange : EntriesIn T.ep 32
  epCovers : ∀ q ∈ positions 32, q ∈ T.ep.toList
  pc1Selects : (T.pc1l.toList ++ T.pc1r.toList).Perm ((positions 64).filter fun q => q % 8 ≠ 0)
  pc2Distinct : T.pc2.toList.Nodup
  pc2Range : EntriesIn T.pc2 56
  pc2Omits : (positions 56).filter (fun q => q ∉ T.pc2.toList) = [9, 18, 22, 25, 35, 38, 43, 54]
  sboxRows : ∀ (j : Fin 8) (row : BitVec 2), ∀ v : Nibble, ∃ col : BitVec 4, sboxEntry T j row col = v
  rotSum : ((List.finRange 16).map fun r => shiftAmount (tab T.rot r)).sum = 28

/-- The final permutation undoes the initial one and the initial one the final, the premise under which the datapath can
be inverted whatever the other tables hold (R102, R157). -/
def FinalInvertsInitial (T : Tables) : Prop :=
  ∀ b : Block, perm T.fp (perm T.ip b) = b ∧ perm T.ip (perm T.fp b) = b

/-! ## The datapath under a key (R150) -/

/-- `E_K(b)`: the datapath run to encrypt with the schedule of `K` (R150). -/
def encryptUnder (k b : Block) : Block := feistelCore tables (keySchedule tables k) .encrypt b

/-- `D_K(b)`: the datapath run to decrypt with the schedule of `K` (R150). -/
def decryptUnder (k b : Block) : Block := feistelCore tables (keySchedule tables k) .decrypt b

/-- The known answers KA1 to KA11: key, plaintext, ciphertext (`95_test_vectors.md` section 2, R160). -/
def knownAnswers : List (Block × Block × Block) :=
  [(0x133457799BBCDFF1, 0x0123456789ABCDEF, 0x85E813540F0AB405),
   (0x0123456789ABCDEF, 0x4E6F772069732074, 0x3FA40E8A984D4815),
   (0x0101010101010101, 0x8000000000000000, 0x95F8A5E5DD31D900),
   (0x8001010101010101, 0x0000000000000000, 0x95A8D72813DAA94D),
   (0x0101010101010101, 0x0000000000000000, 0x8CA64DE9C1B123A7),
   (0x0000000000000000, 0x0000000000000000, 0x8CA64DE9C1B123A7),
   (0xFFFFFFFFFFFFFFFF, 0xFFFFFFFFFFFFFFFF, 0x7359B2163E4EDC58),
   (0x3000000000000000, 0x1000000000000001, 0x958E6E627A05557B),
   (0x1111111111111111, 0x1111111111111111, 0xF40379AB9E0EC533),
   (0x0123456789ABCDEF, 0x1111111111111111, 0x17668DFC7292532D),
   (0xFEDCBA9876543210, 0x0123456789ABCDEF, 0xED39D950FA74BCC4)]

/-! ## CBC (R189) -/

/-- `c_i = E(p_i ^ c_(i-1))` for blocks in order, from `c_0`. -/
def cbcEncrypt (E : Block → Block) : (c0 : Block) → List Block → List Block
  | _, [] => []
  | c0, p :: ps => E (p ^^^ c0) :: cbcEncrypt E (E (p ^^^ c0)) ps

/-- `p_i = D(c_i) ^ c_(i-1)` for blocks in order, from `c_0`. -/
def cbcDecrypt (D : Block → Block) : (c0 : Block) → List Block → List Block
  | _, [] => []
  | c0, c :: cs => (D c ^^^ c0) :: cbcDecrypt D c cs

/-- The first `n` blocks of a byte string. -/
def blocksOf : (n : Nat) → List Byte → List Block
  | 0, _ => []
  | n + 1, bytes => join8 (bytes.take 8) :: blocksOf n (bytes.drop 8)

/-- A message extended with zero bytes to a multiple of 8, `(8 - t) mod 8` of them (R200). -/
def padToBlocks (msg : List Byte) : List Byte := msg ++ List.replicate ((8 - msg.length % 8) % 8) 0

/-- The bytes of a list of blocks, in order. -/
def bytesOf (blocks : List Block) : List Byte := (blocks.map split8).flatten

end Sys2Proof.Safety
end

