-- ==== Sys2Proof/Certificates/Slice0/Obligations.lean ====
section
/-! DEFINITION. The statements for the provers. Response frames are written out byte by byte (R77, R79), and a next
state written `{ s with … }` says that every field not named is unchanged. -/

open Sys2Proof Sys2Proof.Machine Sys2Proof.Safety

/-! ## Frames -/

/-- Every well-formed command is read back from its frame, every operand at every value (R70, R72, R78). -/
def Obligations.DecodeOfEncode : Prop :=
  ∀ i : Instr, i.wellFormed = true → decodeFrame (encode i) = .ok i

/-- A frame has one meaning: what decodes is a well-formed command, and the frame is that command's (R78, R80). -/
def Obligations.EncodeOfDecode : Prop :=
  ∀ (bytes : List Byte) (i : Instr), decodeFrame bytes = .ok i → i.wellFormed = true ∧ encode i = bytes

/-- Frames written out in `95_test_vectors.md` (programs P1, P1d, P2, P3) decode to the commands they stand for. -/
def Obligations.SampleFramesDecode : Prop :=
  decodeFrame [0x01, 0x00, 0x08, 0x01, 0x23, 0x45, 0x67, 0x89, 0xAB, 0xCD, 0xEF,
      0x08, 0x12, 0x34, 0x56, 0x78, 0x90, 0xAB, 0xCD, 0xEF] =
    .ok (.construct .encrypt [0x01, 0x23, 0x45, 0x67, 0x89, 0xAB, 0xCD, 0xEF]
      [0x12, 0x34, 0x56, 0x78, 0x90, 0xAB, 0xCD, 0xEF]) ∧
  decodeFrame [0x02, 0x08, 0x4E, 0x6F, 0x77, 0x20, 0x69, 0x73, 0x20, 0x74] =
    .ok (.xform [0x4E, 0x6F, 0x77, 0x20, 0x69, 0x73, 0x20, 0x74]) ∧
  decodeFrame [0x03, 0x02, 0x21, 0x21] = .ok (.xfinal [0x21, 0x21]) ∧
  decodeFrame [0x04] = .ok .dispose ∧
  decodeFrame [0x05, 0x07, 0x01, 0x01, 0x01, 0x01, 0x01, 0x01, 0x01] =
    .ok (.isweak [0x01, 0x01, 0x01, 0x01, 0x01, 0x01, 0x01]) ∧
  decodeFrame [0x06, 0x08, 0x01, 0xFE, 0x01, 0xFE, 0x01, 0xFE, 0x01, 0xFE] =
    .ok (.issemiweak [0x01, 0xFE, 0x01, 0xFE, 0x01, 0xFE, 0x01, 0xFE]) ∧
  decodeFrame [0x07, 0x00, 0x01] = .ok (.config .cbc (.other 0x01))

/-- The illegal and reserved encodings, (a) to (d), each end in fault `BadFrame`; every well-formed command, whatever
its lengths, runs (R80). -/
def Obligations.ReservedFramesFault : Prop :=
  ∀ (s : State) (bytes : List Byte) (rest : List HostEvent),
    s.life ≠ .faulted → s.inbox = .frame bytes :: rest →
    (((∃ opcode fields, bytes = opcode :: fields ∧ (opcode = 0x00 ∨ 0x08 ≤ opcode.toNat)) ∨
      (∃ d fields, bytes = 0x01 :: d :: fields ∧ 0x02 ≤ d.toNat) ∨
      (∃ n fields, bytes = 0x03 :: n :: fields ∧ 9 ≤ n.toNat) ∨
      (∃ (i : Instr) (k : Nat), i.wellFormed = true ∧ k < (encode i).length ∧ bytes = (encode i).take k) ∨
      (∃ (i : Instr) (extra : List Byte), i.wellFormed = true ∧ extra ≠ [] ∧ bytes = encode i ++ extra)) →
      step s = .next { s with inbox := rest, life := .faulted, faultReason := some .badFrame }) ∧
    (∀ i : Instr, i.wellFormed = true → bytes = encode i → step s = exec i { s with inbox := rest })

/-! ## The step, reset and the lifecycle -/

/-- A step on a frame that decodes is `exec` of its command, on the engine with that frame taken off (R59, R78). -/
def Obligations.StepRunsDecodedFrame : Prop :=
  ∀ (s : State) (bytes : List Byte) (rest : List HostEvent) (i : Instr),
    s.life ≠ .faulted → s.inbox = .frame bytes :: rest → decodeFrame bytes = .ok i →
    step s = exec i { s with inbox := rest }

/-- The host's other two actions: nothing leaves the state unchanged, and reset gives `LIFE = Empty` in any lifecycle
state and no response (R240, R252). The values that `DIR`, `CHAIN` and `K[0..15]` take are free and not stated. -/
def Obligations.StepOnSilenceAndReset : Prop :=
  ∀ s : State,
    (s.inbox = [] → step s = .next s) ∧
    (∀ rest, s.inbox = .reset :: rest →
      ∃ t, step s = .next t ∧ t.life = .empty ∧ t.faultReason = none ∧ t.inbox = rest ∧ t.outbox = s.outbox)

/-- In `Faulted` no command has a step (R190, R221), and a frame, decodable or not, gets no response and changes
nothing (R252). -/
def Obligations.FaultedIgnoresEveryFrame : Prop :=
  ∀ s : State, s.life = .faulted →
    (∀ i, exec i s = .fault .noStepWhenFaulted) ∧
    (∀ bytes rest, s.inbox = .frame bytes :: rest → step s = .next { s with inbox := rest })

/-- Reset leaves `LIFE = Empty`, and the parameter registers hold their fixed values (R28, R240). -/
def Obligations.ResetIsEmpty : Prop :=
  State.reset.life = .empty ∧ State.reset.faultReason = none ∧ State.reset.outbox = [] ∧ State.reset.inbox = [] ∧
  paramRegs = { blockSize := 64, keySize := 64, effectiveKeySize := 56, mode := .cbc, padding := .zeroFill }

/-- The lifecycle table, cell by cell, and that only reset leaves `Faulted` (R190). An `XFINAL` of more than 8 bytes is
no command of the table (R80 (c)). -/
def Obligations.LifecycleTable : Prop :=
  (∀ s : State, s.life = .empty →
    (∀ dir key iv, ∃ t, exec (.construct dir key iv) s = .next t ∧
      ((t.life = .ready ∧ t.outbox = s.outbox ++ [[0x00, 0x00]]) ∨
       (t.life = .empty ∧ ∃ e, e ≠ Status.ok ∧ t.outbox = s.outbox ++ [[statusByte e, 0x00]]))) ∧
    (∀ data, exec (.xform data) s = .next { s with life := .faulted, faultReason := some .notConstructed }) ∧
    (∀ data, data.length ≤ 8 →
      exec (.xfinal data) s = .next { s with life := .faulted, faultReason := some .notConstructed }) ∧
    exec .dispose s = .next { s with life := .faulted, faultReason := some .notConstructed }) ∧
  (∀ s : State, s.life = .ready →
    (∀ dir key iv,
      exec (.construct dir key iv) s = .next { s with life := .faulted, faultReason := some .alreadyConstructed }) ∧
    (∀ data, ∃ t, exec (.xform data) s = .next t ∧ t.life = .ready) ∧
    (∀ data, data.length ≤ 8 → ∃ t, exec (.xfinal data) s = .next t ∧ t.life = .ready) ∧
    (∃ t, exec .dispose s = .next t ∧ t.life = .disposed)) ∧
  (∀ s : State, s.life = .disposed →
    (∀ dir key iv,
      exec (.construct dir key iv) s = .next { s with life := .faulted, faultReason := some .useAfterDispose }) ∧
    (∀ data, exec (.xform data) s = .next { s with life := .faulted, faultReason := some .useAfterDispose }) ∧
    (∀ data, data.length ≤ 8 →
      exec (.xfinal data) s = .next { s with life := .faulted, faultReason := some .useAfterDispose }) ∧
    exec .dispose s = .next { s with life := .faulted, faultReason := some .useAfterDispose }) ∧
  (∀ s : State, s.life ≠ .faulted →
    (∀ key, ∃ t, exec (.isweak key) s = .next t ∧ t.life = s.life) ∧
    (∀ key, ∃ t, exec (.issemiweak key) s = .next t ∧ t.life = s.life) ∧
    (∀ mode pad, ∃ t, exec (.config mode pad) s = .next t ∧ t.life = s.life)) ∧
  (∀ s : State, s.life = .faulted →
    (∀ i, exec i s = .fault .noStepWhenFaulted) ∧
    (∀ t, step s = .next t → t.life = .faulted ∨ ∃ rest, s.inbox = .reset :: rest))

/-! ## The commands -/

/-- `CONSTRUCT` step by step: the four errors in their order, each with all it leaves (R212 to R214), and the instance
it makes; in `Ready` and `Disposed` it faults. That a key of another length ends in `InvalidKeySize` here is the
specification's own inference ("[derived: from `44_weakkey.md` rules R170 and R171]" and its decision D11; assumption
log 16). -/
def Obligations.ConstructFollowsItsSteps : Prop :=
  ∀ (s : State) (dir : Direction) (key iv : List Byte),
    (s.life = .empty →
      (key.length ≠ 8 →
        exec (.construct dir key iv) s = .next { s with outbox := s.outbox ++ [[0x01, 0x00]] }) ∧
      (key.length = 8 → join8 key ∈ keySets.weak →
        exec (.construct dir key iv) s = .next { s with outbox := s.outbox ++ [[0x03, 0x00]] }) ∧
      (key.length = 8 → join8 key ∈ keySets.semiWeak →
        exec (.construct dir key iv) s = .next { s with outbox := s.outbox ++ [[0x04, 0x00]] }) ∧
      (key.length = 8 → join8 key ∉ keySets.weak → join8 key ∉ keySets.semiWeak → iv.length ≠ 8 →
        exec (.construct dir key iv) s =
          .next { s with keys := Vector.replicate 16 0, outbox := s.outbox ++ [[0x02, 0x00]] }) ∧
      (key.length = 8 → join8 key ∉ keySets.weak → join8 key ∉ keySets.semiWeak → iv.length = 8 →
        exec (.construct dir key iv) s =
          .next { s with
            life := .ready, dir := dir, chain := join8 iv, keys := keySchedule tables (join8 key),
            outbox := s.outbox ++ [[0x00, 0x00]] })) ∧
    (s.life = .ready → ∃ r, exec (.construct dir key iv) s = .next { s with life := .faulted, faultReason := some r }) ∧
    (s.life = .disposed →
      ∃ r, exec (.construct dir key iv) s = .next { s with life := .faulted, faultReason := some r })

/-- `XFORM` in `Ready`: the no-op success on no data, the length error, and the block step of each direction
(R182 to R184, R215). -/
def Obligations.XformOutcome : Prop :=
  ∀ (s : State) (data : List Byte), s.life = .ready →
    (data.length = 0 → exec (.xform data) s = .next { s with outbox := s.outbox ++ [[0x00, 0x00]] }) ∧
    (data.length ≠ 0 → data.length ≠ 8 →
      exec (.xform data) s = .next { s with outbox := s.outbox ++ [[0x05, 0x00]] }) ∧
    (data.length = 8 → s.dir = .encrypt →
      exec (.xform data) s =
        .next { s with
          chain := feistelCore tables s.keys .encrypt (join8 data ^^^ s.chain)
          outbox := s.outbox ++
            [0x00 :: 0x08 :: split8 (feistelCore tables s.keys .encrypt (join8 data ^^^ s.chain))] }) ∧
    (data.length = 8 → s.dir = .decrypt →
      exec (.xform data) s =
        .next { s with
          chain := join8 data
          outbox := s.outbox ++
            [0x00 :: 0x08 :: split8 (feistelCore tables s.keys .decrypt (join8 data) ^^^ s.chain)] })

/-- `XFINAL` in `Ready`: nothing from nothing, the error of a short block in decrypt direction, one ordinary block in
decrypt direction, one zero-padded block in encrypt direction (R185, R187, R216). The clause for 9 or more bytes is the
model's (assumption log 11: no frame carries them). That nothing makes no block, that a full block gets none appended and
that the chain goes on are the specification's decisions D13 to D15 (assumption log 16). -/
def Obligations.XfinalOutcome : Prop :=
  ∀ (s : State) (data : List Byte), s.life = .ready →
    (data.length = 0 → exec (.xfinal data) s = .next { s with outbox := s.outbox ++ [[0x00, 0x00]] }) ∧
    (1 ≤ data.length → data.length ≤ 7 → s.dir = .decrypt →
      exec (.xfinal data) s = .next { s with outbox := s.outbox ++ [[0x06, 0x00]] }) ∧
    (data.length = 8 → s.dir = .decrypt →
      exec (.xfinal data) s =
        .next { s with
          chain := join8 data
          outbox := s.outbox ++
            [0x00 :: 0x08 :: split8 (feistelCore tables s.keys .decrypt (join8 data) ^^^ s.chain)] }) ∧
    (1 ≤ data.length → data.length ≤ 8 → s.dir = .encrypt →
      ∃ padded c, padded = data ++ List.replicate (8 - data.length) 0 ∧
        c = feistelCore tables s.keys .encrypt (join8 padded ^^^ s.chain) ∧
        exec (.xfinal data) s =
          .next { s with chain := c, outbox := s.outbox ++ [0x00 :: 0x08 :: split8 c] }) ∧
    (9 ≤ data.length →
      exec (.xfinal data) s = .next { s with life := .faulted, faultReason := some .badFrame })

/-- A final call on a full block is the non-final call on the same block, in every state and both directions
(R185, R200). -/
def Obligations.XfinalOfFullBlockIsXform : Prop :=
  ∀ (s : State) (data : List Byte), data.length = 8 → exec (.xfinal data) s = exec (.xform data) s

/-- `DISPOSE` in `Ready` zeroes every subkey and answers `OK`; every later `XFORM`, `XFINAL` or `DISPOSE` faults
(R186). What `CHAIN` and `DIR` hold is free and not stated. -/
def Obligations.DisposeOutcome : Prop :=
  ∀ s : State, s.life = .ready →
    ∃ t, exec .dispose s = .next t ∧ t.life = .disposed ∧ (∀ r, tab t.keys r = 0) ∧
      t.outbox = s.outbox ++ [[0x00, 0x00]] ∧ t.inbox = s.inbox ∧ t.faultReason = s.faultReason ∧
      exec .dispose t = .next { t with life := .faulted, faultReason := some .useAfterDispose } ∧
      (∀ data, exec (.xform data) t = .next { t with life := .faulted, faultReason := some .useAfterDispose }) ∧
      (∀ data, data.length ≤ 8 →
        exec (.xfinal data) t = .next { t with life := .faulted, faultReason := some .useAfterDispose })

/-- `ISWEAK`: the length error, or one boolean that says whether the joined key is one of the four constants; nothing
else changes (R170, with the set of R172). -/
def Obligations.IsWeakOutcome : Prop :=
  ∀ (s : State) (key : List Byte), s.life ≠ .faulted →
    (key.length ≠ 8 → exec (.isweak key) s = .next { s with outbox := s.outbox ++ [[0x01, 0x00]] }) ∧
    (key.length = 8 →
      exec (.isweak key) s = .next { s with
        outbox := s.outbox ++ [[0x00, 0x01,
          if join8 key = 0x0101010101010101 ∨ join8 key = 0xFEFEFEFEFEFEFEFE ∨
             join8 key = 0x1F1F1F1F0E0E0E0E ∨ join8 key = 0xE0E0E0E0F1F1F1F1 then 0x01 else 0x00]] }) ∧
    encode (.isweak key) = 0x05 :: BitVec.ofNat 8 key.length :: key

/-- `ISSEMIWEAK`: the length error, or one boolean that says whether the joined key is one of the twelve constants, no
weak key among them; nothing else changes (R171, with the set of R173). -/
def Obligations.IsSemiWeakOutcome : Prop :=
  ∀ (s : State) (key : List Byte), s.life ≠ .faulted →
    (key.length ≠ 8 → exec (.issemiweak key) s = .next { s with outbox := s.outbox ++ [[0x01, 0x00]] }) ∧
    (key.length = 8 →
      exec (.issemiweak key) s = .next { s with
        outbox := s.outbox ++ [[0x00, 0x01,
          if join8 key ∈ [0x01FE01FE01FE01FE, 0xFE01FE01FE01FE01, 0x1FE01FE00EF10EF1, 0xE01FE01FF10EF10E,
             0x01E001E001F101F1, 0xE001E001F101F101, 0x1FFE1FFE0EFE0EFE, 0xFE1FFE1FFE0EFE0E,
             0x011F011F010E010E, 0x1F011F010E010E01, 0xE0FEE0FEF1FEF1FE, 0xFEE0FEE0FEF1FEF1]
          then 0x01 else 0x00]] }) ∧
    encode (.issemiweak key) = 0x06 :: BitVec.ofNat 8 key.length :: key

/-- `CONFIG`: the mode is tested first, then the padding; nothing is written (R195, R217, R218). The order of the two
tests is the specification's own decision D5. -/
def Obligations.ConfigOutcome : Prop :=
  ∀ (s : State) (mode : CipherMode) (pad : Padding), s.life ≠ .faulted →
    (mode ≠ .cbc → exec (.config mode pad) s = .next { s with outbox := s.outbox ++ [[0x08, 0x00]] }) ∧
    (mode = .cbc → pad ≠ .zeroFill →
      exec (.config mode pad) s = .next { s with outbox := s.outbox ++ [[0x07, 0x00]] }) ∧
    (mode = .cbc → pad = .zeroFill →
      exec (.config mode pad) s = .next { s with outbox := s.outbox ++ [[0x00, 0x00]] })

/-! ## Frames: what a command leaves unchanged -/

/-- After an error every register has the value it had before, except that `InvalidIVSize` leaves the subkeys zero
(R219, R212). -/
def Obligations.ErrorsKeepTheRegisters : Prop :=
  ∀ (i : Instr) (s t : State) (e : Status), e ≠ .ok →
    exec i s = .next t → t.outbox = s.outbox ++ [[statusByte e, 0x00]] →
    t.life = s.life ∧ t.dir = s.dir ∧ t.chain = s.chain ∧ t.inbox = s.inbox ∧ t.faultReason = s.faultReason ∧
    t.draws = s.draws ∧ (e ≠ .invalidIVSize → t.keys = s.keys) ∧
    (e = .invalidIVSize → t.keys = Vector.replicate 16 0)

/-- The engine does not retry or repair: after an error, the same command gives the same error again (R220). -/
def Obligations.RetryGivesTheSameError : Prop :=
  ∀ (i : Instr) (s t : State) (e : Status), e ≠ .ok →
    exec i s = .next t → t.outbox = s.outbox ++ [[statusByte e, 0x00]] →
    exec i t = .next { t with outbox := t.outbox ++ [[statusByte e, 0x00]] }

/-- The frame of `CONSTRUCT`: a fault writes `LIFE` alone, a rejected key nothing, a rejected IV the subkeys, and only
a success writes `DIR`, `CHAIN` and `LIFE` (R181, R221). -/
def Obligations.FrameOfConstruct : Prop :=
  ∀ (s t : State) (dir : Direction) (key iv : List Byte), exec (.construct dir key iv) s = .next t →
    (∃ r, t = { s with life := .faulted, faultReason := some r }) ∨
    (∃ e k, e ≠ Status.ok ∧ (e ≠ .invalidIVSize → k = s.keys) ∧
      t = { s with keys := k, outbox := s.outbox ++ [[statusByte e, 0x00]] }) ∨
    (∃ c k, t = { s with life := .ready, dir := dir, chain := c, keys := k, outbox := s.outbox ++ [[0x00, 0x00]] })

/-- The frame of `XFORM` and `XFINAL`: a fault writes `LIFE` alone, and a command that runs returns one response and
writes at most `CHAIN`, and that only when it answers 8 bytes (R182, R185, R221). -/
def Obligations.FrameOfTransforms : Prop :=
  ∀ (s t : State) (data : List Byte), (exec (.xform data) s = .next t ∨ exec (.xfinal data) s = .next t) →
    (∃ r, t = { s with life := .faulted, faultReason := some r }) ∨
    (∃ st, t = { s with outbox := s.outbox ++ [[statusByte st, 0x00]] }) ∨
    (∃ c out, out.length = 8 ∧ t = { s with chain := c, outbox := s.outbox ++ [0x00 :: 0x08 :: out] })

/-- The frame of `DISPOSE`: a fault writes `LIFE` alone; a disposal returns one response and leaves the host's events
and the fault record as they are (R186, R221). `CHAIN` and `DIR` take free values and are not in the frame. -/
def Obligations.FrameOfDispose : Prop :=
  ∀ (s t : State), exec .dispose s = .next t →
    (∃ r, t = { s with life := .faulted, faultReason := some r }) ∨
    (∃ d c n, t = { s with life := .disposed, keys := Vector.replicate 16 0, dir := d, chain := c, draws := n,
                           outbox := s.outbox ++ [[0x00, 0x00]] })

/-- The frame of `ISWEAK`, `ISSEMIWEAK` and `CONFIG`: they return one response and change no state (R58, R170, R171,
R195). -/
def Obligations.FrameOfStatelessCommands : Prop :=
  ∀ (s t : State) (key : List Byte) (mode : CipherMode) (pad : Padding),
    (exec (.isweak key) s = .next t ∨ exec (.issemiweak key) s = .next t ∨ exec (.config mode pad) s = .next t) →
    ∃ f, t = { s with outbox := s.outbox ++ [f] }

/-- While an instance is `Ready`, only `DISPOSE` writes a subkey or `DIR` (R35 (a), (c); R62). -/
def Obligations.ReadyInstanceKeepsKeysAndDirection : Prop :=
  ∀ (i : Instr) (s t : State), s.life = .ready → exec i s = .next t → i ≠ .dispose →
    t.keys = s.keys ∧ t.dir = s.dir

/-- After a block, `CHAIN` holds the ciphertext: the eight bytes answered in encrypt direction, the eight bytes given
in decrypt direction (R21, R35 (d)). -/
def Obligations.ChainHoldsTheCiphertext : Prop :=
  ∀ (s t : State) (data : List Byte), s.life = .ready → data.length = 8 → exec (.xform data) s = .next t →
    ∃ out, t.outbox = s.outbox ++ [0x00 :: 0x08 :: out] ∧ out.length = 8 ∧
      (s.dir = .encrypt → t.chain = join8 out) ∧ (s.dir = .decrypt → t.chain = join8 data)

/-! ## The whole machine -/

/-- The invariant holds right after reset. -/
def Obligations.InvAtReset : Prop := Inv State.reset

/-- Every step keeps the invariant: in `Ready` the subkeys are the schedule of an ordinary key, in `Disposed` they are
zero, a fault is recorded exactly in `Faulted`, and every response has the form of R77 (R35, R37, R77, R221). -/
def Obligations.StepKeepsInv : Prop :=
  ∀ s t : State, Inv s → step s = .next t → Inv t

/-- No command but `XFORM` and `XFINAL` lets the registers `DIR`, `CHAIN` and `K[0..15]` reach the host: what it
answers, and the lifecycle it leaves, are the same whatever they hold (R224, R21, R24). -/
def Obligations.SecretsReachNoOtherResponse : Prop :=
  ∀ (i : Instr) (s₁ s₂ t₁ t₂ : State), (∀ data, i ≠ .xform data ∧ i ≠ .xfinal data) →
    s₁.life = s₂.life → s₁.outbox = s₂.outbox → exec i s₁ = .next t₁ → exec i s₂ = .next t₂ →
    t₁.outbox = t₂.outbox ∧ t₁.life = t₂.life

/-- No rule reads a register that holds no value: outside `Ready`, whatever `DIR`, `CHAIN` and `K[0..15]` hold, every
command stream is observed alike (R241). It holds for every value of the free values of assumption log 1 to 3. -/
def Obligations.UnwrittenRegistersAreNotRead : Prop :=
  ∀ (commands : List Instr) (s₁ s₂ : State), s₁.life = s₂.life → s₁.life ≠ .ready → s₁.outbox = s₂.outbox →
    observation (runCommands commands s₁) = observation (runCommands commands s₂)

/-- One step returns at most one response, and takes nothing back (R77, R252). -/
def Obligations.StepReturnsAtMostOneResponse : Prop :=
  ∀ s t : State, step s = .next t → t.outbox = s.outbox ∨ ∃ f, t.outbox = s.outbox ++ [f]

/-- Engines are independent: a step of one changes no other, and the order of the steps of two does not matter
(R36, R228). -/
def Obligations.EnginesAreIndependent : Prop :=
  ∀ (sys : System) (m n : Nat), m ≠ n →
    (systemStep n sys)[m]? = sys[m]? ∧ systemStep m (systemStep n sys) = systemStep n (systemStep m sys)

/-! ## Tables and primitive operations -/

/-- The structural facts (a) to (g) hold of the tables (R117). -/
def Obligations.TablesHaveTheirStructure : Prop := TablesStructural tables

/-- `Perm`: output bit `{i}` is the source bit that entry `i` names; a source bit that no entry names has no effect,
and `Perm` is linear over XOR (R122). -/
def Obligations.PermIsLinearAndSelective : Prop :=
  ∀ (n w : Nat) (t : Vector Nat n) (a b : BitVec w),
    (∀ i : Fin n, bitAt (perm t a) (i.val + 1) = bitAt a (tab t i)) ∧
    perm t (a ^^^ b) = perm t a ^^^ perm t b ∧
    ((∀ i, bitAt a (tab t i) = bitAt b (tab t i)) → perm t a = perm t b)

/-- The final permutation undoes the initial one, and the initial one the final (R102). -/
def Obligations.FinalPermutationInvertsInitial : Prop :=
  ∀ b : Block, perm tables.fp (perm tables.ip b) = b ∧ perm tables.ip (perm tables.fp b) = b

/-- `Split` and `Join` are inverse, and byte `i` of a split is the slice R121 names, for every number of bytes. -/
def Obligations.SplitInvertsJoin : Prop :=
  ∀ n : Nat,
    (∀ v : BitVec (8 * n), join n (split n v) = v) ∧
    (∀ b : List Byte, b.length = n → split n (join n b) = b) ∧
    (∀ (v : BitVec (8 * n)) (i : Nat), i < n → (split n v)[i]? = some (v.extractLsb' (8 * (n - 1 - i)) 8))

/-- Bit `{8 i + j}` of a joined block is bit `{j}` of byte `i`, and the halves of the permuted block are its bytes 0..3
and 4..7 (R54). -/
def Obligations.BitsOfAJoinedBlock : Prop :=
  (∀ (b : List Byte) (i j : Nat), b.length = 8 → i < 8 → 1 ≤ j → j ≤ 8 →
    bitAt (join8 b) (8 * i + j) = bitAt (b.getD i 0) j) ∧
  (∀ block : Block,
    (initialHalves tables block).left = join 4 ((split8 (perm tables.ip block)).take 4) ∧
    (initialHalves tables block).right = join 4 ((split8 (perm tables.ip block)).drop 4))

/-- `Rotl28` moves bit `i + s` to bit `i` cyclically inside 28 bits; two single rotations are one double, and
twenty-eight are the identity (R125). -/
def Obligations.RotationIsCyclic : Prop :=
  ∀ v : KeyHalf,
    (∀ (s : Shift) (i : Nat), i < 28 → (rotl28 v s).getMsbD i = v.getMsbD ((i + shiftAmount s) % 28)) ∧
    rotl28 (rotl28 v .one) .one = rotl28 v .two ∧
    (List.range 28).foldl (fun h _ => rotl28 h .one) v = v

/-- The eight groups of a 48-bit value, in order, are the value; the outer index of a group is its first and last bit
and the inner index its middle four; the eight nibbles stand in a joined half in order (R123, R124, R126). -/
def Obligations.GroupsAndNibblesKeepOrder : Prop :=
  (∀ x : Subkey, ((tab (groups6 x) 0 ++ tab (groups6 x) 1 ++ tab (groups6 x) 2 ++ tab (groups6 x) 3 ++
    tab (groups6 x) 4 ++ tab (groups6 x) 5 ++ tab (groups6 x) 6 ++ tab (groups6 x) 7 : BitVec 48)) = x) ∧
  (∀ g : Group, (outerIndex g).toNat = 2 * (g.toNat / 32) + g.toNat % 2 ∧ (innerIndex g).toNat = g.toNat / 2 % 16) ∧
  (∀ (n : Vector Nibble 8) (j : Fin 8), (nibbleJoin n).extractLsb' (28 - 4 * j.val) 4 = tab n j)

/-! ## The key schedule -/

/-- The sixteen rounds of the schedule: round 0 rotates the halves of step 1, each later round the halves of the round
before, `K[r]` is selected after the rotation, and round 15 ends at the halves of step 1 (R142). -/
def Obligations.KeyScheduleAccumulates : Prop :=
  ∀ key : Block,
    keyHalvesAfter tables key 0 = rotateHalves tables (keyHalvesStart tables key) 0 ∧
    (∀ (r : Nat) (h : r + 1 < 16), keyHalvesAfter tables key ⟨r + 1, h⟩ =
      rotateHalves tables (keyHalvesAfter tables key ⟨r, by omega⟩) ⟨r + 1, h⟩) ∧
    (∀ r : Fin 16, tab (keySchedule tables key) r =
      perm tables.pc2 ((keyHalvesAfter tables key r).c ++ (keyHalvesAfter tables key r).d)) ∧
    keyHalvesAfter tables key 15 = keyHalvesStart tables key

/-- Two keys that differ only in parity bits have the same `C` and `D`, the same sixteen subkeys and the same cipher
(R145). -/
def Obligations.ParityBitsAreIgnored : Prop :=
  (∀ k₁ k₂ : Block, (∀ p, 1 ≤ p → p ≤ 64 → p % 8 ≠ 0 → bitAt k₁ p = bitAt k₂ p) →
    keyHalvesStart tables k₁ = keyHalvesStart tables k₂ ∧ keySchedule tables k₁ = keySchedule tables k₂ ∧
    ∀ b, encryptUnder k₁ b = encryptUnder k₂ b ∧ decryptUnder k₁ b = decryptUnder k₂ b) ∧
  (∀ r : Fin 16, tab (keySchedule tables 0x0000000000000000) r = 0 ∧ tab (keySchedule tables 0x0101010101010101) r = 0)

/-- The schedules of the classified keys: all sixteen subkeys of a weak key are equal, its halves all zeros or all
ones; a semi-weak key has two distinct subkeys, and read backwards its schedule is its partner's (R146). -/
def Obligations.SchedulesOfClassifiedKeys : Prop :=
  (∀ k ∈ weakSet,
    ((keyHalvesStart tables k).c = 0x0000000 ∨ (keyHalvesStart tables k).c = 0xFFFFFFF) ∧
    ((keyHalvesStart tables k).d = 0x0000000 ∨ (keyHalvesStart tables k).d = 0xFFFFFFF) ∧
    ∀ r : Fin 16, tab (keySchedule tables k) r = tab (keySchedule tables k) 0) ∧
  (∀ ab ∈ semiWeakPairs,
    (∀ r : Fin 16, tab (keySchedule tables ab.1) r = tab (keySchedule tables ab.2) r.rev) ∧
    (∀ k ∈ [ab.1, ab.2], tab (keySchedule tables k) 0 ≠ tab (keySchedule tables k) 1 ∧
      ∀ r : Fin 16, tab (keySchedule tables k) r = tab (keySchedule tables k) 0 ∨
        tab (keySchedule tables k) r = tab (keySchedule tables k) 1))

/-! ## The cipher -/

/-- Decryption undoes encryption and encryption undoes decryption, for any sixteen subkeys and any block (R157). -/
def Obligations.FeistelCoreInverse : Prop :=
  ∀ (keys : RoundKeys) (b : Block),
    feistelCore tables keys .decrypt (feistelCore tables keys .encrypt b) = b ∧
    feistelCore tables keys .encrypt (feistelCore tables keys .decrypt b) = b

/-- Decryption walks the one array of subkeys in reverse: it is encryption with the sixteen subkeys in the other order
(R143, R154). -/
def Obligations.DecryptionReadsTheSubkeysBackwards : Prop :=
  ∀ (keys : RoundKeys) (b : Block),
    feistelCore tables keys .decrypt b = feistelCore tables keys.reverse .encrypt b

/-- For each weak key, encrypting twice is the identity, and encryption is decryption (R158). -/
def Obligations.WeakKeysAreSelfInverse : Prop :=
  ∀ k ∈ weakSet, ∀ b : Block, encryptUnder k (encryptUnder k b) = b ∧ encryptUnder k b = decryptUnder k b

/-- For each semi-weak pair (A, B), `E_A = D_B` and `E_B = D_A` (R159). -/
def Obligations.SemiWeakKeysPair : Prop :=
  ∀ ab ∈ semiWeakPairs, ∀ b : Block,
    encryptUnder ab.1 b = decryptUnder ab.2 b ∧ encryptUnder ab.2 b = decryptUnder ab.1 b

/-- The cipher commutes with complementing key, plaintext and ciphertext (`95_test_vectors.md` KA15). -/
def Obligations.CipherCommutesWithComplement : Prop :=
  ∀ k b : Block, encryptUnder (~~~k) (~~~b) = ~~~(encryptUnder k b)

/-- The known answers KA1 to KA11 of `95_test_vectors.md` section 2 (R160), encrypted and decrypted. -/
def Obligations.KnownAnswers : Prop :=
  ∀ kpc ∈ knownAnswers,
    encryptUnder kpc.1 kpc.2.1 = kpc.2.2 ∧ decryptUnder kpc.1 kpc.2.2 = kpc.2.1

/-! ## CBC -/

/-- `ZeroPad` keeps the data at the front, fills with zero bytes to 8, and leaves 8 bytes as they are (R187). -/
def Obligations.ZeroPadFillsToABlock : Prop :=
  ∀ data : List Byte, 1 ≤ data.length → data.length ≤ 8 →
    (zeroPad data).length = 8 ∧ (zeroPad data).take data.length = data ∧
    (∀ x ∈ (zeroPad data).drop data.length, x = 0) ∧ (data.length = 8 → zeroPad data = data)

/-- A sequence of blocks given one by one is chained block to block from what `CHAIN` held, in command order:
`c_i = E_K(p_i ^ c_(i-1))` to encrypt and `p_i = D_K(c_i) ^ c_(i-1)` to decrypt (R189). -/
def Obligations.BlocksAreChained : Prop :=
  ∀ (s : State) (blocks : List Block), s.life = .ready →
    (s.dir = .encrypt →
      runCommands (blocks.map fun p => .xform (split8 p)) s = .next { s with
        chain := (cbcEncrypt (feistelCore tables s.keys .encrypt) s.chain blocks).getLastD s.chain
        outbox := s.outbox ++
          (cbcEncrypt (feistelCore tables s.keys .encrypt) s.chain blocks).map fun c => 0x00 :: 0x08 :: split8 c }) ∧
    (s.dir = .decrypt →
      runCommands (blocks.map fun c => .xform (split8 c)) s = .next { s with
        chain := blocks.getLastD s.chain
        outbox := s.outbox ++
          (cbcDecrypt (feistelCore tables s.keys .decrypt) s.chain blocks).map fun p => 0x00 :: 0x08 :: split8 p })

/-- The output of `ENCRYPT_STREAM` is the CBC encryption of the message extended with zero bytes, `8 * ceil(m / 8)`
bytes of it, and the engine ends `Disposed` (R200). -/
def Obligations.EncryptStreamIsCbc : Prop :=
  ∀ (s : State) (key iv msg : List Byte),
    s.life = .empty → key.length = 8 → ordinaryKey (join8 key) → iv.length = 8 →
    ∃ t, runCommands (encryptStream key iv msg) s = .next t ∧ t.life = .disposed ∧
      outputData (newResponses s t) =
        bytesOf (cbcEncrypt (encryptUnder (join8 key)) (join8 iv)
          (blocksOf ((msg.length + 7) / 8) (padToBlocks msg))) ∧
      (outputData (newResponses s t)).length = 8 * ((msg.length + 7) / 8)

/-- For a message whose length is a multiple of 8, all blocks by `XFORM` and an empty `XFINAL` give the same output and
the same engine as the cut of `ENCRYPT_STREAM`, but for the number of responses (R200). -/
def Obligations.BothCutsOfAStreamAgree : Prop :=
  ∀ (s : State) (dir : Direction) (key iv msg : List Byte),
    s.life = .empty → key.length = 8 → ordinaryKey (join8 key) → iv.length = 8 → msg.length % 8 = 0 →
    ∃ t u, runCommands (streamCommands dir key iv msg) s = .next t ∧
      runCommands (.construct dir key iv :: (dataCommands (msg.length / 8) msg ++ [.dispose])) s = .next u ∧
      outputData (newResponses s t) = outputData (newResponses s u) ∧ u = { t with outbox := u.outbox }

/-- `DECRYPT_STREAM`: of a multiple of 8 bytes the output is the CBC decryption, as long as the input; otherwise the
leading full blocks have been emitted when `XFINAL` answers `IncompleteFinalBlock` (R201). -/
def Obligations.DecryptStreamIsCbc : Prop :=
  ∀ (s : State) (key iv ct : List Byte),
    s.life = .empty → key.length = 8 → ordinaryKey (join8 key) → iv.length = 8 →
    ∃ t, runCommands (decryptStream key iv ct) s = .next t ∧ t.life = .disposed ∧
      outputData (newResponses s t) =
        bytesOf (cbcDecrypt (decryptUnder (join8 key)) (join8 iv) (blocksOf (ct.length / 8) ct)) ∧
      (outputData (newResponses s t)).length = 8 * (ct.length / 8) ∧
      (ct.length % 8 ≠ 0 → ∃ frames, newResponses s t = frames ++ [[0x06, 0x00], [0x00, 0x00]])

/-- Decrypting an encrypted message, each on an engine of its own, gives the message back, with the zero bytes that
filled its last block; a message of a multiple of 8 bytes comes back as it was (R202). -/
def Obligations.StreamRoundTrip : Prop :=
  ∀ (s₁ s₂ : State) (key iv msg : List Byte),
    s₁.life = .empty → s₂.life = .empty → key.length = 8 → ordinaryKey (join8 key) → iv.length = 8 →
    ∃ t₁ t₂, runCommands (encryptStream key iv msg) s₁ = .next t₁ ∧
      runCommands (decryptStream key iv (outputData (newResponses s₁ t₁))) s₂ = .next t₂ ∧
      outputData (newResponses s₂ t₂) = msg ++ List.replicate ((8 - msg.length % 8) % 8) 0 ∧
      (msg.length % 8 = 0 → outputData (newResponses s₂ t₂) = msg)

/-- `GENKEY` returns the first draw that is neither weak nor semi-weak, whatever the source draws, and fails only when
every draw it was allowed was refused (R198). The bound on the draws, and so the clause that says when there is no key,
is the model's choice (assumption log 9). -/
def Obligations.GeneratedKeysAreOrdinary : Prop :=
  ∀ (source : Nat → List Byte) (fuel draw : Nat),
    (∀ key next, genKeyFrom source fuel draw = some (key, next) →
      ordinaryKey (join8 key) ∧ ∃ n, draw ≤ n ∧ n < draw + fuel ∧ key = source n ∧ next = n + 1 ∧
        ∀ m, draw ≤ m → m < n → ¬ ordinaryKey (join8 (source m))) ∧
    (genKeyFrom source fuel draw = none ↔
      ∀ m, draw ≤ m → m < draw + fuel → ¬ ordinaryKey (join8 (source m)))

/-! ## Runs of frames -/

/-- The frames of a sequence of commands, taken by one step each, run the commands one after the other (R59, R251): if
every command has a next state, so does every step, and the engine they end in is the same. -/
def Obligations.FramesRunTheirCommands : Prop :=
  ∀ (commands : List Instr) (s t : State), (∀ i ∈ commands, i.wellFormed = true) → s.inbox = [] →
    runCommands commands s = .next t → core.run commands.length (s.sendAll commands) = .next t

/-- The frames of a stream, either direction, sent to an `Empty` engine are a well-formed run: it ends with nothing left
to send and the engine `Disposed` (R251, R200, R201). -/
def Obligations.StreamFramesEndDisposed : Prop :=
  ∀ (s : State) (dir : Direction) (key iv msg : List Byte),
    s.inbox = [] → s.life = .empty → key.length = 8 → ordinaryKey (join8 key) → iv.length = 8 →
    ∃ t, core.run (streamCommands dir key iv msg).length (s.sendAll (streamCommands dir key iv msg)) = .next t ∧
      EndsDisposed t ∧ t.outbox.length = s.outbox.length + leadingBlocks msg + 3

/-! ## Other tables and sets -/

/-- What each command reads of the open parameters `TABLES`, `WEAK_SET` and `SEMIWEAK_SET`, for every value of them
(R10, R177): the classifiers and `CONSTRUCT` the sets, `CONSTRUCT` and the block steps the tables. -/
def Obligations.CommandsUnderAnyParameters : Prop :=
  ∀ (P : Params) (s : State),
    (∀ key : List Byte, s.life ≠ .faulted → key.length = 8 →
      execWith P (.isweak key) s = .next { s with
        outbox := s.outbox ++ [[0x00, 0x01, if join8 key ∈ P.keySets.weak then 0x01 else 0x00]] } ∧
      execWith P (.issemiweak key) s = .next { s with
        outbox := s.outbox ++ [[0x00, 0x01, if join8 key ∈ P.keySets.semiWeak then 0x01 else 0x00]] }) ∧
    (∀ (dir : Direction) (key iv : List Byte), s.life = .empty → key.length = 8 →
      execWith P (.construct dir key iv) s =
        if join8 key ∈ P.keySets.weak then .next { s with outbox := s.outbox ++ [[0x03, 0x00]] }
        else if join8 key ∈ P.keySets.semiWeak then .next { s with outbox := s.outbox ++ [[0x04, 0x00]] }
        else if iv.length ≠ 8 then
          .next { s with keys := Vector.replicate 16 0, outbox := s.outbox ++ [[0x02, 0x00]] }
        else
          .next { s with
            life := .ready, dir := dir, chain := join8 iv, keys := keySchedule P.tables (join8 key),
            outbox := s.outbox ++ [[0x00, 0x00]] }) ∧
    (∀ data : List Byte, s.life = .ready → data.length = 8 → s.dir = .encrypt →
      ∃ c, c = feistelCore P.tables s.keys .encrypt (join8 data ^^^ s.chain) ∧
        execWith P (.xform data) s = .next { s with chain := c, outbox := s.outbox ++ [0x00 :: 0x08 :: split8 c] } ∧
        execWith P (.xfinal data) s = execWith P (.xform data) s) ∧
    (∀ data : List Byte, s.life = .ready → data.length = 8 → s.dir = .decrypt →
      ∃ p, p = feistelCore P.tables s.keys .decrypt (join8 data) ^^^ s.chain ∧
        execWith P (.xform data) s =
          .next { s with chain := join8 data, outbox := s.outbox ++ [0x00 :: 0x08 :: split8 p] } ∧
        execWith P (.xfinal data) s = execWith P (.xform data) s)

/-- The round trip of a stream does not depend on the numbers in the tables or the sets: it holds for all tables whose
final permutation undoes the initial one, and for every key that is ordinary in the sets assumed (R202, R157, R10). -/
def Obligations.StreamRoundTripUnderAnyTables : Prop :=
  ∀ (P : Params) (s₁ s₂ : State) (key iv msg : List Byte),
    FinalInvertsInitial P.tables → s₁.life = .empty → s₂.life = .empty →
    key.length = 8 → classify P.keySets (join8 key) = .ordinary → iv.length = 8 →
    ∃ t₁ t₂, runBy (execWith P) (encryptStream key iv msg) s₁ = .next t₁ ∧
      runBy (execWith P) (decryptStream key iv (outputData (newResponses s₁ t₁))) s₂ = .next t₂ ∧
      outputData (newResponses s₂ t₂) = msg ++ List.replicate ((8 - msg.length % 8) % 8) 0

/-- `GENKEY` as draws and commands (R83): over 8-byte draws it finds the key that the loop of R198 finds, for every value
of the sets; it changes nothing of the engine but the responses, two for each draw, and a key was found exactly on two
answers false. In `Faulted` the engine answers nothing and there is no key. The bound on the draws is the model's choice
(assumption log 9). -/
def Obligations.GenkeyAsksTheEngine : Prop :=
  ∀ (P : Params) (source : Nat → List Byte) (fuel draw : Nat) (s : State), (∀ n, (source n).length = 8) →
    (s.life ≠ .faulted → ∃ frames,
      genKeyBy (execWith P) source fuel draw s =
        .next (genKeyIn P.keySets source fuel draw, { s with outbox := s.outbox ++ frames }) ∧
      (∀ f ∈ frames, f = [0x00, 0x01, 0x00] ∨ f = [0x00, 0x01, 0x01]) ∧
      (∀ key next, genKeyIn P.keySets source fuel draw = some (key, next) → frames.length = 2 * (next - draw) ∧
        ∃ earlier, frames = earlier ++ [[0x00, 0x01, 0x00], [0x00, 0x01, 0x00]]) ∧
      (genKeyIn P.keySets source fuel draw = none → frames.length = 2 * fuel)) ∧
    (s.life = .faulted → 0 < fuel → genKeyBy (execWith P) source fuel draw s = .fault .noStepWhenFaulted)

/-- A key that `GENKEY` got from an `Empty` engine is one that `CONSTRUCT` accepts on that engine, for every value of the
sets and whatever the source draws (R176, R198). -/
def Obligations.GeneratedKeysConstruct : Prop :=
  ∀ (P : Params) (source : Nat → List Byte) (fuel draw next : Nat) (s t : State) (dir : Direction) (key iv : List Byte),
    s.life = .empty → iv.length = 8 → genKeyBy (execWith P) source fuel draw s = .next (some (key, next), t) →
    execWith P (.construct dir key iv) t = .next { t with
      life := .ready, dir := dir, chain := join8 iv, keys := keySchedule P.tables (join8 key),
      outbox := t.outbox ++ [[0x00, 0x00]] }
end

