-- ==== Sys2Proof/Laws/BitOps.lean ====
section
/-! SUPPORT. One lemma per primitive operation, in terms of single bits. -/

namespace Sys2Proof.Machine

/-- Bit `i` (from 0, most significant first) of a permuted value is the source bit its table entry names (R122). -/
@[simp] theorem perm_getMsbD {n w : Nat} (t : Vector Nat n) (v : BitVec w) (i : Nat) :
    (perm t v).getMsbD i = if h : i < n then bitAt v (tab t ⟨i, h⟩) else false := by
  unfold perm
  rw [BitVec.getMsbD_ofFnBE]

theorem perm_getMsbD_fin {n w : Nat} (t : Vector Nat n) (v : BitVec w) (i : Fin n) :
    (perm t v).getMsbD i = bitAt v (tab t i) := by
  simp

/-- The two bit numberings of R11: `v{p} = v[W - p]` for a position `p` of the value. -/
theorem bitAt_eq_getLsbD {w : Nat} (v : BitVec w) {p : Nat} (h1 : 1 ≤ p) (hw : p ≤ w) :
    bitAt v p = v.getLsbD (w - p) := by
  unfold bitAt
  rw [BitVec.getMsbD_eq_getLsbD]
  have : p - 1 < w := by omega
  simp only [this, decide_true, Bool.true_and]
  congr 1
  omega

@[simp] theorem bitAt_xor {w : Nat} (a b : BitVec w) (p : Nat) : bitAt (a ^^^ b) p = (bitAt a p ^^ bitAt b p) := by
  simp [bitAt]

@[simp] theorem split_length (n : Nat) (v : BitVec (8 * n)) : (split n v).length = n := by
  simp [split]

@[simp] theorem split8_length (v : Block) : (split8 v).length = 8 := split_length 8 v

theorem zeroPad_length {data : List Byte} (h : data.length ≤ 8) : (zeroPad data).length = 8 := by
  simp [zeroPad]; omega

theorem zeroPad_eight {data : List Byte} (h : data.length = 8) : zeroPad data = data := by
  simp [zeroPad, h]

@[simp] theorem tab_keySchedule (T : Tables) (key : Block) (r : Fin 16) :
    tab (keySchedule T key) r = selectSubkey T (keyHalvesAfter T key r) := by
  simp [tab, keySchedule]

/-- The datapath in one line (R156). -/
theorem feistelCore_eq (T : Tables) (keys : RoundKeys) (dir : Direction) (block : Block) :
    feistelCore T keys dir block = finalBlock T (feistelRounds T keys dir (initialHalves T block)) := by
  unfold feistelCore
  rfl

/-- Undoing a round: the halves before it, from the halves after it. -/
theorem feistelRound_undo (T : Tables) (h : Halves) (k : Subkey) :
    feistelRound T ⟨(feistelRound T h k).right, (feistelRound T h k).left⟩ k = ⟨h.right, h.left⟩ := by
  simp [feistelRound]

end Sys2Proof.Machine
end

