-- ==== Sys2Proof/Laws/State.lean ====
section
/-! SUPPORT. One lemma per field of `State` per update, true by `rfl`, so that no later proof unfolds a record update. -/

namespace Sys2Proof.Machine

variable (s : State)

/-! ### State.setLife -/

@[simp] theorem State.setLife_life (l : Life) : (s.setLife l).life = l := rfl
@[simp] theorem State.setLife_dir (l : Life) : (s.setLife l).dir = s.dir := rfl
@[simp] theorem State.setLife_chain (l : Life) : (s.setLife l).chain = s.chain := rfl
@[simp] theorem State.setLife_keys (l : Life) : (s.setLife l).keys = s.keys := rfl
@[simp] theorem State.setLife_inbox (l : Life) : (s.setLife l).inbox = s.inbox := rfl
@[simp] theorem State.setLife_outbox (l : Life) : (s.setLife l).outbox = s.outbox := rfl
@[simp] theorem State.setLife_faultReason (l : Life) : (s.setLife l).faultReason = s.faultReason := rfl
@[simp] theorem State.setLife_draws (l : Life) : (s.setLife l).draws = s.draws := rfl

/-! ### State.setDir -/

@[simp] theorem State.setDir_life (d : Direction) : (s.setDir d).life = s.life := rfl
@[simp] theorem State.setDir_dir (d : Direction) : (s.setDir d).dir = d := rfl
@[simp] theorem State.setDir_chain (d : Direction) : (s.setDir d).chain = s.chain := rfl
@[simp] theorem State.setDir_keys (d : Direction) : (s.setDir d).keys = s.keys := rfl
@[simp] theorem State.setDir_inbox (d : Direction) : (s.setDir d).inbox = s.inbox := rfl
@[simp] theorem State.setDir_outbox (d : Direction) : (s.setDir d).outbox = s.outbox := rfl
@[simp] theorem State.setDir_faultReason (d : Direction) : (s.setDir d).faultReason = s.faultReason := rfl
@[simp] theorem State.setDir_draws (d : Direction) : (s.setDir d).draws = s.draws := rfl

/-! ### State.setChain -/

@[simp] theorem State.setChain_life (c : Block) : (s.setChain c).life = s.life := rfl
@[simp] theorem State.setChain_dir (c : Block) : (s.setChain c).dir = s.dir := rfl
@[simp] theorem State.setChain_chain (c : Block) : (s.setChain c).chain = c := rfl
@[simp] theorem State.setChain_keys (c : Block) : (s.setChain c).keys = s.keys := rfl
@[simp] theorem State.setChain_inbox (c : Block) : (s.setChain c).inbox = s.inbox := rfl
@[simp] theorem State.setChain_outbox (c : Block) : (s.setChain c).outbox = s.outbox := rfl
@[simp] theorem State.setChain_faultReason (c : Block) : (s.setChain c).faultReason = s.faultReason := rfl
@[simp] theorem State.setChain_draws (c : Block) : (s.setChain c).draws = s.draws := rfl

/-! ### State.setKeys -/

@[simp] theorem State.setKeys_life (k : RoundKeys) : (s.setKeys k).life = s.life := rfl
@[simp] theorem State.setKeys_dir (k : RoundKeys) : (s.setKeys k).dir = s.dir := rfl
@[simp] theorem State.setKeys_chain (k : RoundKeys) : (s.setKeys k).chain = s.chain := rfl
@[simp] theorem State.setKeys_keys (k : RoundKeys) : (s.setKeys k).keys = k := rfl
@[simp] theorem State.setKeys_inbox (k : RoundKeys) : (s.setKeys k).inbox = s.inbox := rfl
@[simp] theorem State.setKeys_outbox (k : RoundKeys) : (s.setKeys k).outbox = s.outbox := rfl
@[simp] theorem State.setKeys_faultReason (k : RoundKeys) : (s.setKeys k).faultReason = s.faultReason := rfl
@[simp] theorem State.setKeys_draws (k : RoundKeys) : (s.setKeys k).draws = s.draws := rfl

/-! ### State.clearKeys -/

@[simp] theorem State.clearKeys_life : (s.clearKeys).life = s.life := rfl
@[simp] theorem State.clearKeys_dir : (s.clearKeys).dir = s.dir := rfl
@[simp] theorem State.clearKeys_chain : (s.clearKeys).chain = s.chain := rfl
@[simp] theorem State.clearKeys_keys : (s.clearKeys).keys = Vector.replicate 16 0 := rfl
@[simp] theorem State.clearKeys_inbox : (s.clearKeys).inbox = s.inbox := rfl
@[simp] theorem State.clearKeys_outbox : (s.clearKeys).outbox = s.outbox := rfl
@[simp] theorem State.clearKeys_faultReason : (s.clearKeys).faultReason = s.faultReason := rfl
@[simp] theorem State.clearKeys_draws : (s.clearKeys).draws = s.draws := rfl

/-! ### State.dropChainAndDir -/

@[simp] theorem State.dropChainAndDir_life : (s.dropChainAndDir).life = s.life := rfl
@[simp] theorem State.dropChainAndDir_dir : (s.dropChainAndDir).dir = Config.freeDir s.draws s.dir := rfl
@[simp] theorem State.dropChainAndDir_chain : (s.dropChainAndDir).chain = Config.freeChain s.draws s.chain := rfl
@[simp] theorem State.dropChainAndDir_keys : (s.dropChainAndDir).keys = s.keys := rfl
@[simp] theorem State.dropChainAndDir_inbox : (s.dropChainAndDir).inbox = s.inbox := rfl
@[simp] theorem State.dropChainAndDir_outbox : (s.dropChainAndDir).outbox = s.outbox := rfl
@[simp] theorem State.dropChainAndDir_faultReason : (s.dropChainAndDir).faultReason = s.faultReason := rfl
@[simp] theorem State.dropChainAndDir_draws : (s.dropChainAndDir).draws = s.draws + 1 := rfl

/-! ### State.emit -/

@[simp] theorem State.emit_life (frame : List Byte) : (s.emit frame).life = s.life := rfl
@[simp] theorem State.emit_dir (frame : List Byte) : (s.emit frame).dir = s.dir := rfl
@[simp] theorem State.emit_chain (frame : List Byte) : (s.emit frame).chain = s.chain := rfl
@[simp] theorem State.emit_keys (frame : List Byte) : (s.emit frame).keys = s.keys := rfl
@[simp] theorem State.emit_inbox (frame : List Byte) : (s.emit frame).inbox = s.inbox := rfl
@[simp] theorem State.emit_outbox (frame : List Byte) : (s.emit frame).outbox = s.outbox ++ [frame] := rfl
@[simp] theorem State.emit_faultReason (frame : List Byte) : (s.emit frame).faultReason = s.faultReason := rfl
@[simp] theorem State.emit_draws (frame : List Byte) : (s.emit frame).draws = s.draws := rfl

/-! ### State.setInbox -/

@[simp] theorem State.setInbox_life (events : List HostEvent) : (s.setInbox events).life = s.life := rfl
@[simp] theorem State.setInbox_dir (events : List HostEvent) : (s.setInbox events).dir = s.dir := rfl
@[simp] theorem State.setInbox_chain (events : List HostEvent) : (s.setInbox events).chain = s.chain := rfl
@[simp] theorem State.setInbox_keys (events : List HostEvent) : (s.setInbox events).keys = s.keys := rfl
@[simp] theorem State.setInbox_inbox (events : List HostEvent) : (s.setInbox events).inbox = events := rfl
@[simp] theorem State.setInbox_outbox (events : List HostEvent) : (s.setInbox events).outbox = s.outbox := rfl
@[simp] theorem State.setInbox_faultReason (events : List HostEvent) : (s.setInbox events).faultReason = s.faultReason := rfl
@[simp] theorem State.setInbox_draws (events : List HostEvent) : (s.setInbox events).draws = s.draws := rfl

/-! ### State.offerFrame -/

@[simp] theorem State.offerFrame_life (bytes : List Byte) : (s.offerFrame bytes).life = s.life := rfl
@[simp] theorem State.offerFrame_dir (bytes : List Byte) : (s.offerFrame bytes).dir = s.dir := rfl
@[simp] theorem State.offerFrame_chain (bytes : List Byte) : (s.offerFrame bytes).chain = s.chain := rfl
@[simp] theorem State.offerFrame_keys (bytes : List Byte) : (s.offerFrame bytes).keys = s.keys := rfl
@[simp] theorem State.offerFrame_inbox (bytes : List Byte) : (s.offerFrame bytes).inbox = .frame bytes :: s.inbox := rfl
@[simp] theorem State.offerFrame_outbox (bytes : List Byte) : (s.offerFrame bytes).outbox = s.outbox := rfl
@[simp] theorem State.offerFrame_faultReason (bytes : List Byte) : (s.offerFrame bytes).faultReason = s.faultReason := rfl
@[simp] theorem State.offerFrame_draws (bytes : List Byte) : (s.offerFrame bytes).draws = s.draws := rfl

/-! ### raiseFault -/

@[simp] theorem raiseFault_life (r : FaultReason) : (raiseFault r s).life = .faulted := rfl
@[simp] theorem raiseFault_dir (r : FaultReason) : (raiseFault r s).dir = s.dir := rfl
@[simp] theorem raiseFault_chain (r : FaultReason) : (raiseFault r s).chain = s.chain := rfl
@[simp] theorem raiseFault_keys (r : FaultReason) : (raiseFault r s).keys = s.keys := rfl
@[simp] theorem raiseFault_inbox (r : FaultReason) : (raiseFault r s).inbox = s.inbox := rfl
@[simp] theorem raiseFault_outbox (r : FaultReason) : (raiseFault r s).outbox = s.outbox := rfl
@[simp] theorem raiseFault_faultReason (r : FaultReason) : (raiseFault r s).faultReason = some r := rfl
@[simp] theorem raiseFault_draws (r : FaultReason) : (raiseFault r s).draws = s.draws := rfl

/-! ### applyReset -/

@[simp] theorem applyReset_life : (applyReset s).life = .empty := rfl
@[simp] theorem applyReset_dir : (applyReset s).dir = Config.freeDir s.draws s.dir := rfl
@[simp] theorem applyReset_chain : (applyReset s).chain = Config.freeChain s.draws s.chain := rfl
@[simp] theorem applyReset_keys : (applyReset s).keys = Config.freeKeys s.draws s.keys := rfl
@[simp] theorem applyReset_inbox : (applyReset s).inbox = s.inbox := rfl
@[simp] theorem applyReset_outbox : (applyReset s).outbox = s.outbox := rfl
@[simp] theorem applyReset_faultReason : (applyReset s).faultReason = none := rfl
@[simp] theorem applyReset_draws : (applyReset s).draws = s.draws + 1 := rfl

/-! ### succeed -/

@[simp] theorem succeed_life (data : List Byte) : (succeed data s).life = s.life := rfl
@[simp] theorem succeed_dir (data : List Byte) : (succeed data s).dir = s.dir := rfl
@[simp] theorem succeed_chain (data : List Byte) : (succeed data s).chain = s.chain := rfl
@[simp] theorem succeed_keys (data : List Byte) : (succeed data s).keys = s.keys := rfl
@[simp] theorem succeed_inbox (data : List Byte) : (succeed data s).inbox = s.inbox := rfl
@[simp] theorem succeed_outbox (data : List Byte) : (succeed data s).outbox = s.outbox ++ [responseFrame .ok data] := rfl
@[simp] theorem succeed_faultReason (data : List Byte) : (succeed data s).faultReason = s.faultReason := rfl
@[simp] theorem succeed_draws (data : List Byte) : (succeed data s).draws = s.draws := rfl

/-! ### raiseError -/

@[simp] theorem raiseError_life (e : Status) : (raiseError e s).life = s.life := rfl
@[simp] theorem raiseError_dir (e : Status) : (raiseError e s).dir = s.dir := rfl
@[simp] theorem raiseError_chain (e : Status) : (raiseError e s).chain = s.chain := rfl
@[simp] theorem raiseError_keys (e : Status) : (raiseError e s).keys = s.keys := rfl
@[simp] theorem raiseError_inbox (e : Status) : (raiseError e s).inbox = s.inbox := rfl
@[simp] theorem raiseError_outbox (e : Status) : (raiseError e s).outbox = s.outbox ++ [responseFrame e []] := rfl
@[simp] theorem raiseError_faultReason (e : Status) : (raiseError e s).faultReason = s.faultReason := rfl
@[simp] theorem raiseError_draws (e : Status) : (raiseError e s).draws = s.draws := rfl

end Sys2Proof.Machine
end

