-- ==== Sys2Proof/Laws/Ops.lean ====
section
/-! SUPPORT. For each shared operation, one lemma that says everything it can do. -/

namespace Sys2Proof.Machine

/-! ## Responses -/

@[simp] theorem responseFrame_nil (st : Status) : responseFrame st [] = [statusByte st, 0] := rfl

@[simp] theorem statusByte_ok : statusByte .ok = 0x00 := rfl

theorem statusByte_injective : ∀ a b : Status, statusByte a = statusByte b → a = b := by
  intro a b
  cases a <;> cases b <;> simp [statusByte]

theorem responseFrame_inj {a b : Status} {x y : List Byte} (h : responseFrame a x = responseFrame b y) :
    a = b ∧ x = y := by
  simp only [responseFrame, List.cons.injEq] at h
  exact ⟨statusByte_injective a b h.1, h.2.2⟩

/-- A command that succeeds appends one response and writes nothing else. -/
theorem succeed_eq (data : List Byte) (s : State) :
    succeed data s = { s with outbox := s.outbox ++ [responseFrame .ok data] } := rfl

/-- A command that raises an error appends one response without data and writes nothing else. -/
theorem raiseError_eq (e : Status) (s : State) :
    raiseError e s = { s with outbox := s.outbox ++ [[statusByte e, 0x00]] } := rfl

/-- A fault writes `LIFE`, records its reason, and writes nothing else. -/
theorem raiseFault_eq (r : FaultReason) (s : State) :
    raiseFault r s = { s with life := .faulted, faultReason := some r } := rfl

/-! ## The lifecycle gate -/

theorem gated_runs {k : CommandKind} {s : State} (h : admission s.life k = .runs) (body : State → State) :
    gated k body s = .next (body s) := by
  simp [gated, h]

theorem gated_faults {k : CommandKind} {s : State} {r : FaultReason} (h : admission s.life k = .faults r)
    (body : State → State) : gated k body s = .next (raiseFault r s) := by
  simp [gated, h]

theorem gated_noStep {k : CommandKind} {s : State} (h : s.life = .faulted) (body : State → State) :
    gated k body s = .fault .noStepWhenFaulted := by
  cases k <;> simp [gated, h, admission]

/-- Everything `gated` can answer. -/
theorem gated_cases (k : CommandKind) (body : State → State) (s : State) :
    (admission s.life k = .runs ∧ gated k body s = .next (body s)) ∨
    (∃ r, admission s.life k = .faults r ∧ gated k body s = .next (raiseFault r s)) ∨
    (admission s.life k = .noStep ∧ gated k body s = .fault .noStepWhenFaulted) := by
  unfold gated
  split <;> simp_all

theorem admission_noStep_iff (l : Life) (k : CommandKind) : admission l k = .noStep ↔ l = .faulted := by
  cases l <;> cases k <;> simp [admission]

@[simp] theorem admission_faulted (k : CommandKind) : admission .faulted k = .noStep := by
  cases k <;> rfl

/-- A command runs in these lifecycle states and in no other. -/
theorem admission_runs_iff (l : Life) (k : CommandKind) :
    admission l k = .runs ↔
      (k = .construct ∧ l = .empty) ∨ (k = .transform ∧ l = .ready) ∨ (k = .dispose ∧ l = .ready) ∨
      (k = .stateless ∧ l ≠ .faulted) := by
  cases l <;> cases k <;> simp [admission]

/-- If `gated` answers a next state, the body ran or the lifecycle fault was taken, and the engine was not `Faulted`. -/
theorem gated_next {k : CommandKind} {body : State → State} {s t : State} (h : gated k body s = .next t) :
    s.life ≠ .faulted ∧
      ((admission s.life k = .runs ∧ t = body s) ∨ ∃ r, admission s.life k = .faults r ∧ t = raiseFault r s) := by
  have hf : s.life ≠ .faulted := fun he => by simp [gated, he] at h
  rcases gated_cases k body s with ⟨ha, hb⟩ | ⟨r, ha, hb⟩ | ⟨ha, hb⟩
  · exact ⟨hf, .inl ⟨ha, by rw [hb] at h; exact (Host.Outcome.next.inj h).symm⟩⟩
  · exact ⟨hf, .inr ⟨r, ha, by rw [hb] at h; exact (Host.Outcome.next.inj h).symm⟩⟩
  · rw [hb] at h; cases h

/-! ## Fetching -/

@[simp] theorem takeEvent_nil {s : State} (h : s.inbox = []) : takeEvent s = none := by
  simp [takeEvent, h]

@[simp] theorem takeEvent_cons {s : State} {e : HostEvent} {rest : List HostEvent} (h : s.inbox = e :: rest) :
    takeEvent s = some (e, s.setInbox rest) := by
  simp [takeEvent, h]

/-- Everything `runFrame` can do. -/
theorem runFrame_cases (run : Runner) (bytes : List Byte) (s : State) :
    (s.life = .faulted ∧ runFrame run bytes s = .next s) ∨
    (s.life ≠ .faulted ∧ ∃ i, decodeFrame bytes = .ok i ∧ runFrame run bytes s = run i s) ∨
    (s.life ≠ .faulted ∧ ∃ e, decodeFrame bytes = .error e ∧ runFrame run bytes s = .next (raiseFault .badFrame s)) := by
  cases hl : s.life <;> cases hd : decodeFrame bytes <;> simp [runFrame, hl, hd]

end Sys2Proof.Machine
end

