-- ==== Sys2Proof/Laws/Commands.lean ====
section
/-! SUPPORT. For each command body and for `exec` and `step`, one lemma that says everything it can do. -/

namespace Sys2Proof.Machine

open Sys2Proof.Safety

/-! ## Admission of each command -/

theorem admission_construct {s : State} (h : s.life = .empty) : admission s.life .construct = .runs := by
  simp [h, admission]

theorem admission_transform {s : State} (h : s.life = .ready) : admission s.life .transform = .runs := by
  simp [h, admission]

theorem admission_dispose {s : State} (h : s.life = .ready) : admission s.life .dispose = .runs := by
  simp [h, admission]

theorem admission_stateless {s : State} (h : s.life ≠ .faulted) : admission s.life .stateless = .runs := by
  simp [admission_runs_iff, h]

/-! ## Bodies -/

/-- One block step to encrypt writes `CHAIN` with its output and answers it. -/
theorem answerBlock_encrypt (P : Params) (b : Block) {s : State} (h : s.dir = .encrypt) :
    answerBlock P b s = { s with
      chain := feistelCore P.tables s.keys .encrypt (b ^^^ s.chain)
      outbox := s.outbox ++ [0x00 :: 0x08 :: split8 (feistelCore P.tables s.keys .encrypt (b ^^^ s.chain))] } := by
  simp only [answerBlock, blockStep, h, blockStepEnc, succeed_eq, responseFrame, split8_length]
  rw [← h]
  rfl

/-- One block step to decrypt writes `CHAIN` with its input and answers the plaintext. -/
theorem answerBlock_decrypt (P : Params) (b : Block) {s : State} (h : s.dir = .decrypt) :
    answerBlock P b s = { s with
      chain := b
      outbox := s.outbox ++ [0x00 :: 0x08 :: split8 (feistelCore P.tables s.keys .decrypt b ^^^ s.chain)] } := by
  simp only [answerBlock, blockStep, h, blockStepDec, succeed_eq, responseFrame, split8_length]
  rw [← h]
  rfl

/-- In either direction a block step writes `CHAIN` and answers eight bytes. -/
theorem answerBlock_cases (P : Params) (b : Block) (s : State) :
    ∃ c out, out.length = 8 ∧
      answerBlock P b s = { s with chain := c, outbox := s.outbox ++ [0x00 :: 0x08 :: out] } := by
  cases h : s.dir with
  | encrypt => exact ⟨_, _, split8_length _, h ▸ answerBlock_encrypt P b h⟩
  | decrypt => exact ⟨_, _, split8_length _, h ▸ answerBlock_decrypt P b h⟩

/-- What the construction of an instance can do, once the lifecycle lets it run. -/
theorem constructBody_cases (P : Params) (dir : Direction) (key iv : List Byte) (s : State) :
    (∃ e, e ≠ .ok ∧ e ≠ .invalidIVSize ∧
      constructBody P dir key iv s = { s with outbox := s.outbox ++ [[statusByte e, 0x00]] }) ∨
    constructBody P dir key iv s =
      { s with keys := Vector.replicate 16 0, outbox := s.outbox ++ [[0x02, 0x00]] } ∨
    (classify P.keySets (join8 key) = .ordinary ∧ constructBody P dir key iv s =
      { s with
        life := .ready
        dir := dir
        chain := join8 iv
        keys := keySchedule P.tables (join8 key)
        outbox := s.outbox ++ [[0x00, 0x00]] }) := by
  unfold constructBody
  split
  · exact .inl ⟨.invalidKeySize, by simp, by simp, rfl⟩
  split
  · exact .inl ⟨.weakKey, by simp, by simp, rfl⟩
  split
  · exact .inl ⟨.semiWeakKey, by simp, by simp, rfl⟩
  simp only []
  split
  · exact .inr (.inl rfl)
  · exact .inr (.inr ⟨by simp_all [classify], rfl⟩)

theorem xformBody_cases (P : Params) (data : List Byte) (s : State) :
    (∃ st, st ≠ .invalidIVSize ∧ xformBody P data s = { s with outbox := s.outbox ++ [[statusByte st, 0x00]] }) ∨
    ∃ c out, out.length = 8 ∧
      xformBody P data s = { s with chain := c, outbox := s.outbox ++ [0x00 :: 0x08 :: out] } := by
  unfold xformBody
  split
  · exact .inl ⟨.ok, by simp, rfl⟩
  split
  · exact .inl ⟨.invalidBlockLength, by simp, rfl⟩
  exact .inr (answerBlock_cases P _ s)

theorem xfinalBody_cases (P : Params) (data : List Byte) (s : State) :
    (∃ st, st ≠ .invalidIVSize ∧ xfinalBody P data s = { s with outbox := s.outbox ++ [[statusByte st, 0x00]] }) ∨
    ∃ c out, out.length = 8 ∧
      xfinalBody P data s = { s with chain := c, outbox := s.outbox ++ [0x00 :: 0x08 :: out] } := by
  unfold xfinalBody
  split
  · exact .inl ⟨.ok, by simp, rfl⟩
  split
  · split
    · exact .inl ⟨.incompleteFinalBlock, by simp, rfl⟩
    · exact .inr (answerBlock_cases P _ s)
  · exact .inr (answerBlock_cases P _ s)

theorem disposeBody_eq (s : State) :
    disposeBody s = { s with
      life := .disposed
      keys := Vector.replicate 16 0
      chain := Config.freeChain s.draws s.chain
      dir := Config.freeDir s.draws s.dir
      draws := s.draws + 1
      outbox := s.outbox ++ [[0x00, 0x00]] } := rfl

theorem classifyBody_cases (test : Block → Bool) (key : List Byte) (s : State) :
    classifyBody test key s = { s with outbox := s.outbox ++ [[0x01, 0x00]] } ∨
    classifyBody test key s = { s with outbox := s.outbox ++ [[0x00, 0x01, boolByte (test (join8 key))]] } := by
  unfold classifyBody
  split
  · exact .inl rfl
  · exact .inr rfl

theorem configBody_cases (mode : CipherMode) (pad : Padding) (s : State) :
    ∃ st, st ≠ .invalidIVSize ∧
      configBody mode pad s = { s with outbox := s.outbox ++ [[statusByte st, 0x00]] } := by
  unfold configBody
  split
  · exact ⟨.unsupportedCipherMode, by simp, rfl⟩
  split
  · exact ⟨.unsupportedPaddingMode, by simp, rfl⟩
  · exact ⟨.ok, by simp, rfl⟩

/-! ## Commands -/

@[simp] theorem params_tables : params.tables = tables := rfl

@[simp] theorem params_keySets : params.keySets = keySets := rfl

/-- Under the default parameters the parametric engine is the engine of the host's interface. -/
theorem execWith_params (i : Instr) (s : State) : execWith params i s = exec i s := by
  cases i <;> rfl

theorem stepWith_params (s : State) : stepWith params s = step s :=
  congrArg (fun run => stepBy run s) (funext fun i => funext (execWith_params i))

/-- The next states a command can give under given parameters. -/
inductive NextOf (P : Params) (i : Instr) (s : State) : State → Prop where
  /-- A fault. -/
  | faulted (r : FaultReason) : NextOf P i s { s with life := .faulted, faultReason := some r }
  /-- A response without data, in any lifecycle state but `Faulted`. -/
  | plain (st : Status) (h : st ≠ .invalidIVSize) : NextOf P i s { s with outbox := s.outbox ++ [[statusByte st, 0x00]] }
  /-- The boolean of a classification. -/
  | boolean (b : Byte) : NextOf P i s { s with outbox := s.outbox ++ [[0x00, 0x01, b]] }
  /-- A block step. -/
  | block (hl : s.life = .ready) (c : Block) (out : List Byte) (ho : out.length = 8) :
      NextOf P i s { s with chain := c, outbox := s.outbox ++ [0x00 :: 0x08 :: out] }
  /-- A construction that ended in `InvalidIVSize`. -/
  | badIv (hl : s.life = .empty) :
      NextOf P i s { s with keys := Vector.replicate 16 0, outbox := s.outbox ++ [[0x02, 0x00]] }
  /-- A construction that succeeded. -/
  | constructed (hl : s.life = .empty) (d : Direction) (c k : Block) (hk : classify P.keySets k = .ordinary) :
      NextOf P i s { s with
        life := .ready
        dir := d
        chain := c
        keys := keySchedule P.tables k
        outbox := s.outbox ++ [[0x00, 0x00]] }
  /-- A disposal. -/
  | disposed (hi : i = .dispose) (hl : s.life = .ready) : NextOf P i s (disposeBody s)

/-- Everything a command can do when it has a step. -/
theorem execWith_next {P : Params} {i : Instr} {s t : State} (h : execWith P i s = .next t) :
    s.life ≠ .faulted ∧ NextOf P i s t := by
  cases i with
  | construct dir key iv =>
    obtain ⟨hn, ⟨ha, rfl⟩ | ⟨r, -, rfl⟩⟩ := gated_next (show gated _ (constructBody P dir key iv) s = .next t from h)
    · have hl : s.life = .empty := by simpa [admission_runs_iff] using ha
      rcases constructBody_cases P dir key iv s with ⟨e, -, he, hb⟩ | hb | ⟨hk, hb⟩ <;> rw [hb]
      · exact ⟨hn, .plain e he⟩
      · exact ⟨hn, .badIv hl⟩
      · exact ⟨hn, .constructed hl dir (join8 iv) _ hk⟩
    · exact ⟨hn, .faulted r⟩
  | xform data =>
    obtain ⟨hn, ⟨ha, rfl⟩ | ⟨r, -, rfl⟩⟩ := gated_next (show gated _ (xformBody P data) s = .next t from h)
    · have hl : s.life = .ready := by simpa [admission_runs_iff] using ha
      rcases xformBody_cases P data s with ⟨st, hs, hb⟩ | ⟨c, out, ho, hb⟩ <;> rw [hb]
      · exact ⟨hn, .plain st hs⟩
      · exact ⟨hn, .block hl c out ho⟩
    · exact ⟨hn, .faulted r⟩
  | xfinal data =>
    simp only [execWith, xfinalWith] at h
    split at h
    · cases h
      exact ⟨by simp_all, .faulted .badFrame⟩
    obtain ⟨hn, ⟨ha, rfl⟩ | ⟨r, -, rfl⟩⟩ := gated_next h
    · have hl : s.life = .ready := by simpa [admission_runs_iff] using ha
      rcases xfinalBody_cases P data s with ⟨st, hs, hb⟩ | ⟨c, out, ho, hb⟩ <;> rw [hb]
      · exact ⟨hn, .plain st hs⟩
      · exact ⟨hn, .block hl c out ho⟩
    · exact ⟨hn, .faulted r⟩
  | dispose =>
    obtain ⟨hn, ⟨ha, rfl⟩ | ⟨r, -, rfl⟩⟩ := gated_next (show gated _ disposeBody s = .next t from h)
    · exact ⟨hn, .disposed rfl (by simpa [admission_runs_iff] using ha)⟩
    · exact ⟨hn, .faulted r⟩
  | isweak key =>
    obtain ⟨hn, ⟨-, rfl⟩ | ⟨r, -, rfl⟩⟩ := gated_next (show gated _ (classifyBody _ key) s = .next t from h)
    · rcases classifyBody_cases (isWeakKey P.keySets) key s with hb | hb <;> rw [hb]
      · exact ⟨hn, .plain .invalidKeySize (by simp)⟩
      · exact ⟨hn, .boolean _⟩
    · exact ⟨hn, .faulted r⟩
  | issemiweak key =>
    obtain ⟨hn, ⟨-, rfl⟩ | ⟨r, -, rfl⟩⟩ := gated_next (show gated _ (classifyBody _ key) s = .next t from h)
    · rcases classifyBody_cases (isSemiWeakKey P.keySets) key s with hb | hb <;> rw [hb]
      · exact ⟨hn, .plain .invalidKeySize (by simp)⟩
      · exact ⟨hn, .boolean _⟩
    · exact ⟨hn, .faulted r⟩
  | config mode pad =>
    obtain ⟨hn, ⟨-, rfl⟩ | ⟨r, -, rfl⟩⟩ := gated_next (show gated _ (configBody mode pad) s = .next t from h)
    · obtain ⟨st, hs, hb⟩ := configBody_cases mode pad s
      rw [hb]
      exact ⟨hn, .plain st hs⟩
    · exact ⟨hn, .faulted r⟩

/-- Everything a command can do when it has a step, under the default parameters. -/
theorem exec_next {i : Instr} {s t : State} (h : exec i s = .next t) : s.life ≠ .faulted ∧ NextOf params i s t :=
  execWith_next ((execWith_params i s).trans h)

/-! ### No command reads what the host will do next -/

/-- An outcome with the host's events replaced. -/
def withInbox (events : List HostEvent) : Host.Outcome State Fault Refusal → Host.Outcome State Fault Refusal
  | .next t => .next (t.setInbox events)
  | .fault r => .fault r
  | .refused r => .refused r

theorem gated_setInbox (k : CommandKind) (body : State → State) (s : State) (events : List HostEvent)
    (h : body (s.setInbox events) = (body s).setInbox events) :
    gated k body (s.setInbox events) = withInbox events (gated k body s) := by
  rcases gated_cases k body s with ⟨ha, hb⟩ | ⟨r, ha, hb⟩ | ⟨ha, hb⟩
  · rw [hb, gated_runs (s := s.setInbox events) ha, h]
    rfl
  · rw [hb, gated_faults (s := s.setInbox events) ha]
    rfl
  · rw [hb, gated_noStep (s := s.setInbox events) ((admission_noStep_iff _ _).1 ha)]
    rfl

theorem execWith_setInbox (P : Params) (i : Instr) (s : State) (events : List HostEvent) :
    execWith P i (s.setInbox events) = withInbox events (execWith P i s) := by
  cases i with
  | construct dir key iv =>
    refine gated_setInbox _ _ s events ?_
    unfold constructBody
    split_ifs <;> rfl
  | xform data =>
    refine gated_setInbox _ _ s events ?_
    unfold xformBody
    split_ifs <;> first | rfl | (cases h : s.dir <;> simp only [answerBlock, blockStep, State.setInbox_dir, h] <;> rfl)
  | xfinal data =>
    by_cases hd : Config.blockBytes < data.length ∧ s.life ≠ .faulted
    · rw [show execWith P (.xfinal data) (s.setInbox events) = _ from if_pos hd, show execWith P (.xfinal data) s = _ from if_pos hd]
      rfl
    · rw [show execWith P (.xfinal data) (s.setInbox events) = _ from if_neg hd, show execWith P (.xfinal data) s = _ from if_neg hd]
      refine gated_setInbox _ _ s events ?_
      cases h : s.dir <;> unfold xfinalBody <;>
        simp only [State.setInbox_dir, h, answerBlock, blockStep] <;> split_ifs <;> rfl
  | dispose => exact gated_setInbox _ _ s events rfl
  | isweak key =>
    refine gated_setInbox _ _ s events ?_
    unfold classifyBody
    split_ifs <;> rfl
  | issemiweak key =>
    refine gated_setInbox _ _ s events ?_
    unfold classifyBody
    split_ifs <;> rfl
  | config mode pad =>
    refine gated_setInbox _ _ s events ?_
    unfold configBody
    split_ifs <;> rfl

theorem exec_setInbox (i : Instr) (s : State) (events : List HostEvent) :
    exec i (s.setInbox events) = withInbox events (exec i s) := by
  simpa only [execWith_params] using execWith_setInbox params i s events

/-- Everything a step can do when it answers a next state, however commands are run. -/
theorem stepBy_next {run : Runner} {s t : State} (h : stepBy run s = .next t) :
    (s.inbox = [] ∧ t = s) ∨
    (∃ rest, s.inbox = .reset :: rest ∧ t = applyReset (s.setInbox rest)) ∨
    (∃ bytes rest, s.inbox = .frame bytes :: rest ∧ s.life = .faulted ∧ t = s.setInbox rest) ∨
    (∃ bytes rest e, s.inbox = .frame bytes :: rest ∧ s.life ≠ .faulted ∧ decodeFrame bytes = .error e ∧
      t = raiseFault .badFrame (s.setInbox rest)) ∨
    (∃ bytes rest i, s.inbox = .frame bytes :: rest ∧ s.life ≠ .faulted ∧ decodeFrame bytes = .ok i ∧
      run i (s.setInbox rest) = .next t) := by
  unfold stepBy at h
  cases hi : s.inbox with
  | nil =>
    rw [takeEvent_nil hi] at h
    cases h
    exact .inl ⟨rfl, rfl⟩
  | cons e rest =>
    rw [takeEvent_cons hi] at h
    cases e with
    | reset =>
      cases h
      exact .inr (.inl ⟨rest, rfl, rfl⟩)
    | frame bytes =>
      rcases runFrame_cases run bytes (s.setInbox rest) with ⟨hl, hr⟩ | ⟨hl, i, hd, hr⟩ | ⟨hl, e, hd, hr⟩
      · exact .inr (.inr (.inl ⟨bytes, rest, rfl, hl, (Host.Outcome.next.inj (hr.symm.trans h)).symm⟩))
      · exact .inr (.inr (.inr (.inr ⟨bytes, rest, i, rfl, hl, hd, hr.symm.trans h⟩)))
      · exact .inr (.inr (.inr (.inl ⟨bytes, rest, e, rfl, hl, hd, (Host.Outcome.next.inj (hr.symm.trans h)).symm⟩)))

/-- Everything a step can do when it answers a next state. -/
theorem step_next {s t : State} (h : step s = .next t) :
    (s.inbox = [] ∧ t = s) ∨
    (∃ rest, s.inbox = .reset :: rest ∧ t = applyReset (s.setInbox rest)) ∨
    (∃ bytes rest, s.inbox = .frame bytes :: rest ∧ s.life = .faulted ∧ t = s.setInbox rest) ∨
    (∃ bytes rest e, s.inbox = .frame bytes :: rest ∧ s.life ≠ .faulted ∧ decodeFrame bytes = .error e ∧
      t = raiseFault .badFrame (s.setInbox rest)) ∨
    (∃ bytes rest i, s.inbox = .frame bytes :: rest ∧ s.life ≠ .faulted ∧ decodeFrame bytes = .ok i ∧
      exec i (s.setInbox rest) = .next t) :=
  stepBy_next h

/-! ## Command sequences -/

theorem runBy_append (run : Runner) (a b : List Instr) (s : State) :
    runBy run (a ++ b) s =
      match runBy run a s with
      | .next t => runBy run b t
      | .fault r => .fault r
      | .refused r => .refused r := by
  induction a generalizing s with
  | nil => rfl
  | cons i a ih =>
    simp only [List.cons_append, runBy]
    cases run i s <;> simp [ih]

@[simp] theorem runCommands_nil (s : State) : runCommands [] s = .next s := rfl

theorem runCommands_cons (i : Instr) (rest : List Instr) (s : State) :
    runCommands (i :: rest) s =
      match exec i s with
      | .next t => runCommands rest t
      | .fault r => .fault r
      | .refused r => .refused r := rfl

theorem runCommands_append (a b : List Instr) (s : State) :
    runCommands (a ++ b) s =
      match runCommands a s with
      | .next t => runCommands b t
      | .fault r => .fault r
      | .refused r => .refused r := runBy_append exec a b s

end Sys2Proof.Machine
end

