-- ==== Sys2Proof/Laws/PerInstr.lean ====
section
/-! SUPPORT. The family EncodedShape of per-command statements: the frame of a command starts with its opcode and has
the length R72 gives its format. -/

namespace Sys2Proof.Laws.EncodedShape

/-- The frame starts with the opcode of R79 and spans what R72 says. -/
def Statement (i : Instr) : Prop :=
  (encode i).head? = some (opcodeByte i) ∧ (encode i).length = frameLength i

theorem construct (dir : Direction) (key iv : List Byte) : Statement (.construct dir key iv) := by
  refine ⟨rfl, ?_⟩
  simp [encode, operandBytes, encodeString, frameLength]
  omega

theorem xform (data : List Byte) : Statement (.xform data) := by
  refine ⟨rfl, ?_⟩
  simp [encode, operandBytes, encodeString, frameLength]
  omega

theorem xfinal (data : List Byte) : Statement (.xfinal data) := by
  refine ⟨rfl, ?_⟩
  simp [encode, operandBytes, encodeString, frameLength]
  omega

theorem dispose : Statement .dispose := ⟨rfl, rfl⟩

theorem isweak (key : List Byte) : Statement (.isweak key) := by
  refine ⟨rfl, ?_⟩
  simp [encode, operandBytes, encodeString, frameLength]
  omega

theorem issemiweak (key : List Byte) : Statement (.issemiweak key) := by
  refine ⟨rfl, ?_⟩
  simp [encode, operandBytes, encodeString, frameLength]
  omega

theorem config (mode : CipherMode) (pad : Padding) : Statement (.config mode pad) := ⟨rfl, rfl⟩

end Sys2Proof.Laws.EncodedShape
end

