-- ==== Sys2Proof/Machine/Text.lean ====
section
/-! DEFINITION. The textual form of commands and responses (`30_encoding.md` R82), as lists of characters. How many
spaces stand between two fields, and `empty` for every empty byte string, are a DESIGN CHOICE, safe (assumption log
13). -/

namespace Sys2Proof.Machine

/-- A hexadecimal digit (R12). -/
def hexDigit (n : Nat) : Char := "0123456789ABCDEF".toList.getD (n % 16) '0'

/-- A byte as a hexadecimal pair (R12). -/
def hexByte (b : Byte) : List Char := [hexDigit (b.toNat / 16), hexDigit b.toNat]

/-- A byte string as hexadecimal pairs in order, byte 0 first; `empty` for none (R12, R82). -/
def hexBytes : List Byte → List Char
  | [] => "empty".toList
  | [b] => hexByte b
  | b :: rest => hexByte b ++ ' ' :: hexBytes rest

/-- `ENC` or `DEC` (R82). -/
def directionText : Direction → List Char
  | .encrypt => "ENC".toList
  | .decrypt => "DEC".toList

/-- `other(code)` (R82). -/
def otherText (code : Byte) : List Char := "other(".toList ++ hexByte code ++ ")".toList

/-- `CBC` or `other(code)` (R82). -/
def modeText : CipherMode → List Char
  | .cbc => "CBC".toList
  | .other code => otherText code

/-- `ZERO` or `other(code)` (R82). -/
def paddingText : Padding → List Char
  | .zeroFill => "ZERO".toList
  | .other code => otherText code

/-- The textual form of a command: the mnemonic, then its operands (R82). -/
def commandText : Instr → List Char
  | .construct dir key iv =>
    "CONSTRUCT ".toList ++ directionText dir ++ ", key=".toList ++ hexBytes key ++ ", iv=".toList ++ hexBytes iv
  | .xform data => "XFORM ".toList ++ hexBytes data
  | .xfinal data => "XFINAL ".toList ++ hexBytes data
  | .dispose => "DISPOSE".toList
  | .isweak key => "ISWEAK ".toList ++ hexBytes key
  | .issemiweak key => "ISSEMIWEAK ".toList ++ hexBytes key
  | .config mode pad => "CONFIG mode=".toList ++ modeText mode ++ ", pad=".toList ++ paddingText pad

/-- The name of a status (R79, R82). -/
def statusText : Status → List Char
  | .ok => "OK".toList
  | .invalidKeySize => "InvalidKeySize".toList
  | .invalidIVSize => "InvalidIVSize".toList
  | .weakKey => "WeakKey".toList
  | .semiWeakKey => "SemiWeakKey".toList
  | .invalidBlockLength => "InvalidBlockLength".toList
  | .incompleteFinalBlock => "IncompleteFinalBlock".toList
  | .unsupportedPaddingMode => "UnsupportedPaddingMode".toList
  | .unsupportedCipherMode => "UnsupportedCipherMode".toList

/-- The data of an `OK` response to a command, as it is written after the status: the output bytes of `XFORM` and
`XFINAL`, `true` or `false` of the classifiers, nothing for the others (R82). -/
def responseDataText (i : Instr) (data : List Byte) : List Char :=
  match i with
  | .construct _ _ _ => []
  | .xform _ => ' ' :: hexBytes data
  | .xfinal _ => ' ' :: hexBytes data
  | .dispose => []
  | .isweak _ => ' ' :: (if data = [boolByte true] then "true".toList else "false".toList)
  | .issemiweak _ => ' ' :: (if data = [boolByte true] then "true".toList else "false".toList)
  | .config _ _ => []

/-- A command with its response: the command, `->`, the status, and after `OK` the data (R82). -/
def exchangeText (i : Instr) (st : Status) (data : List Byte) : List Char :=
  commandText i ++ " -> ".toList ++ statusText st ++ (if st = .ok then responseDataText i data else [])

end Sys2Proof.Machine
end

