-- ==== Sys2Proof/Tests/Slice0.lean ====
section
/-! SUPPORT. Tests: ill-formed commands are refused, frames written out from the encodings decode, the vectors of
`95_test_vectors.md` hold, and every statement's hypotheses are met by something. Expected values come from that file
or from the rule named, never from the model. -/

namespace Sys2Proof.Tests

open Sys2Proof.Machine Sys2Proof.Safety

set_option Elab.async false

/-! ## Small engines -/

/-- An engine with nothing sent to it and nothing returned. -/
def engine (life : Life) (dir : Direction) (chain : Block) (keys : RoundKeys) : State where
  life := life
  dir := dir
  chain := chain
  keys := keys
  inbox := []
  outbox := []
  faultReason := none
  draws := 1

def emptyEngine : State := engine .empty .decrypt 0x5555555555555555 (Vector.replicate 16 0xAAAAAAAAAAAA)

/-- `K = 0123456789ABCDEF`, `IV = 1234567890ABCDEF` (section 3.6 of the vectors). -/
def readyEngine (dir : Direction) : State :=
  engine .ready dir 0x1234567890ABCDEF (keySchedule tables 0x0123456789ABCDEF)

def disposedEngine : State := engine .disposed .encrypt 0x5555555555555555 (Vector.replicate 16 0)

def faultedEngine : State := { emptyEngine with life := .faulted, faultReason := some .badFrame }

def keyK : List Byte := [0x01, 0x23, 0x45, 0x67, 0x89, 0xAB, 0xCD, 0xEF]
def ivV : List Byte := [0x12, 0x34, 0x56, 0x78, 0x90, 0xAB, 0xCD, 0xEF]
def block1 : List Byte := [0x4E, 0x6F, 0x77, 0x20, 0x69, 0x73, 0x20, 0x74]
def cipher1 : List Byte := [0xE5, 0xC7, 0xCD, 0xDE, 0x87, 0x2B, 0xF2, 0x7C]
def weak8 : List Byte := List.replicate 8 0x01
def semiWeak8 : List Byte := [0xFE, 0x01, 0xFE, 0x01, 0xFE, 0x01, 0xFE, 0x01]

/-- The last response frame, `LIFE` and `CHAIN` of an outcome. -/
def seen : Host.Outcome State Fault Refusal → Option (Option (List Byte) × Life × Block)
  | .next t => some (t.outbox.getLast?, t.life, t.chain)
  | .fault _ => none
  | .refused _ => none

/-- `LIFE`, the fault recorded and the number of responses of an outcome. -/
def faultSeen : Host.Outcome State Fault Refusal → Option (Life × Option FaultReason × Nat)
  | .next t => some (t.life, t.faultReason, t.outbox.length)
  | .fault _ => none
  | .refused _ => none

/-- The next state of an outcome, if there is one. -/
def after : Host.Outcome State Fault Refusal → Option State
  | .next t => some t
  | .fault _ => none
  | .refused _ => none

/-- What one frame does to an engine. -/
def send (bytes : List Byte) (s : State) : Host.Outcome State Fault Refusal := step (s.offerFrame bytes)

/-! ## Ill-formed commands: one for each check of `Instr.wellFormed` -/

theorem test_wf_construct_key : (Instr.construct .encrypt (List.replicate 256 0) ivV).wellFormed = false := by
  decide +kernel
theorem test_wf_construct_iv : (Instr.construct .encrypt keyK (List.replicate 256 0)).wellFormed = false := by
  decide +kernel
theorem test_wf_xform : (Instr.xform (List.replicate 256 0)).wellFormed = false := by decide +kernel
theorem test_wf_xfinal : (Instr.xfinal (List.replicate 9 0)).wellFormed = false := by decide
theorem test_wf_isweak : (Instr.isweak (List.replicate 256 0)).wellFormed = false := by decide +kernel
theorem test_wf_issemiweak : (Instr.issemiweak (List.replicate 256 0)).wellFormed = false := by decide +kernel
theorem test_wf_config_mode : (Instr.config (.other 0) .zeroFill).wellFormed = false := by decide
theorem test_wf_config_pad : (Instr.config .cbc (.other 0)).wellFormed = false := by decide

/-! ## Decoding: frames written out from R72, R75, R76 and R79 -/

theorem test_decode_construct : decodeFrame
    [0b00000001, 0b00000001, 0b00000010, 0xAA, 0xBB, 0b00000001, 0xCC] =
    .ok (.construct .decrypt [0xAA, 0xBB] [0xCC]) := by decide
theorem test_decode_xform : decodeFrame [0b00000010, 0b00000001, 0b10000001] = .ok (.xform [0x81]) := by decide
theorem test_decode_xfinal : decodeFrame [0b00000011, 0b00000010, 0b00100001, 0b00100001] =
    .ok (.xfinal [0x21, 0x21]) := by decide
theorem test_decode_dispose : decodeFrame [0b00000100] = .ok .dispose := by decide
theorem test_decode_isweak : decodeFrame [0b00000101, 0b00000001, 0b11100000] = .ok (.isweak [0xE0]) := by decide
theorem test_decode_issemiweak : decodeFrame [0b00000110, 0b00000000] = .ok (.issemiweak []) := by decide
theorem test_decode_config : decodeFrame [0b00000111, 0b00000000, 0b11111111] =
    .ok (.config .cbc (.other 0xFF)) := by decide

/-- V74, and the `XFINAL` of V73: each is rejected under its own name. -/
theorem test_decode_rejects :
    decodeFrame [0x00] = .error .reservedOpcode ∧ decodeFrame [0x08] = .error .reservedOpcode ∧
    decodeFrame [0x04, 0x00] = .error .trailingBytes ∧
    decodeFrame [0x05, 0x08, 0x01, 0x01, 0x01, 0x01, 0x01, 0x01, 0x01] = .error .truncated ∧
    decodeFrame (0x01 :: 0x02 :: 0x08 :: keyK) = .error .reservedDirection ∧
    decodeFrame (0x03 :: 0x09 :: List.replicate 9 0) = .error .reservedFinalLength ∧
    decodeFrame [] = .error .truncated := by decide

/-- The words of the opcode table: only the opcode is fixed, so the operands are zeros. -/
theorem test_table_words :
    decodeTableWord 8 0x01 = some (.construct .encrypt [] []) ∧ decodeTableWord 16 0x0202 = some (.xform [0, 0]) ∧
    decodeTableWord 8 0x03 = some (.xfinal []) ∧ decodeTableWord 8 0x04 = some .dispose ∧
    decodeTableWord 24 0x050105 = some (.isweak [0x05]) ∧ decodeTableWord 8 0x06 = some (.issemiweak []) ∧
    decodeTableWord 24 0x000107 = some (.config (.other 0x01) .zeroFill) ∧ decodeTableWord 8 0x08 = none := by
  decide +kernel

/-- A word of each row placed by `withFetchWord` is the first command a reset engine runs. -/
theorem test_fetch_word :
    step (State.reset.withFetchWord 8 0x01) = exec (.construct .encrypt [] []) State.reset ∧
    step (State.reset.withFetchWord 8 0x02) = exec (.xform []) State.reset ∧
    step (State.reset.withFetchWord 8 0x03) = exec (.xfinal []) State.reset ∧
    step (State.reset.withFetchWord 8 0x04) = exec .dispose State.reset ∧
    step (State.reset.withFetchWord 8 0x05) = exec (.isweak []) State.reset ∧
    step (State.reset.withFetchWord 8 0x06) = exec (.issemiweak []) State.reset ∧
    step (State.reset.withFetchWord 8 0x07) = exec (.config .cbc .zeroFill) State.reset :=
  ⟨rfl, rfl, rfl, rfl, rfl, rfl, rfl⟩

/-! ## Primitive operations (V1 to V19o) -/

theorem test_join_split : join8 keyK = 0x0123456789ABCDEF ∧ join8 [0x80, 0, 0, 0, 0, 0, 0, 0] = 0x8000000000000000 ∧
    split8 0x85E813540F0AB405 = [0x85, 0xE8, 0x13, 0x54, 0x0F, 0x0A, 0xB4, 0x05] := by decide +kernel

/-- V4, V5, V6, V8, V9. -/
theorem test_perm_ip_fp :
    perm tables.ip (0x8000000000000000 : Block) = 0x0000000001000000 ∧
    perm tables.ip (0x0000000000000001 : Block) = 0x0000008000000000 ∧
    perm tables.ip (0x0123456789ABCDEF : Block) = 0xCC00CCFFF0AAF0AA ∧
    perm tables.fp (0x8000000000000000 : Block) = 0x0000000000000040 ∧
    perm tables.fp (0x0A4CD99543423234 : Block) = 0x85E813540F0AB405 := by decide +kernel

/-- V10 to V16. -/
theorem test_perm_ep_p :
    perm tables.ep (0x80000001 : Half) = 0xC00000000003 ∧ perm tables.ep (0x00000001 : Half) = 0x800000000002 ∧
    perm tables.ep (0xF0F0F0F0 : Half) = 0x7A17A17A17A1 ∧ perm tables.ep (0xF0AAF0AA : Half) = 0x7A15557A1555 ∧
    perm tables.p (0x80000000 : Half) = 0x00800000 ∧ perm tables.p (0x00000001 : Half) = 0x00000800 ∧
    perm tables.p (0x5C82B597 : Half) = 0x234AA9BB := by decide +kernel

/-- V17 to V19d. -/
theorem test_perm_key :
    perm tables.pc1l (0x8000000000000000 : Block) = 0x0100000 ∧ perm tables.pc1r (0x8000000000000000 : Block) = 0 ∧
    perm tables.pc1l (0x0200000000000000 : Block) = 0 ∧ perm tables.pc1r (0x0200000000000000 : Block) = 0x0100000 ∧
    perm tables.pc2 (0x80000000000000 : BitVec 56) = 0x080000000000 ∧
    perm tables.pc2 (0x00000000000001 : BitVec 56) = 0x000000000100 ∧
    perm tables.pc2 (0x00800000000000 : BitVec 56) = 0 ∧
    perm tables.pc2 ((0xE19955F : KeyHalf) ++ (0xAACCF1E : KeyHalf)) = 0x1B02EFFC7072 := by decide +kernel

/-- V19e. -/
theorem test_groups6 : groups6 0x6117BA866527 = #v[0x18, 0x11, 0x1E, 0x3A, 0x21, 0x26, 0x14, 0x27] := by
  decide +kernel

/-- V19f to V19k, box `j` at index `j - 1`. -/
theorem test_sbox :
    (outerIndex 0b011011, innerIndex 0b011011) = (1, 13) ∧ sboxEntry tables 0 1 13 = 5 ∧
    (outerIndex 0b100000, innerIndex 0b100000) = (2, 0) ∧ sboxEntry tables 0 2 0 = 4 ∧
    (outerIndex 0b000001, innerIndex 0b000001) = (1, 0) ∧ sboxEntry tables 0 1 0 = 0 ∧
    (outerIndex 0b111111, innerIndex 0b111111) = (3, 15) ∧ sboxEntry tables 0 3 15 = 13 ∧
    (outerIndex 0b100001, innerIndex 0b100001) = (3, 0) ∧ sboxEntry tables 7 3 0 = 2 ∧
    (outerIndex 0b010110, innerIndex 0b010110) = (0, 11) ∧ sboxEntry tables 4 0 11 = 15 := by decide +kernel

/-- V19l to V19o. -/
theorem test_rotl28_nibbles :
    rotl28 0xF0CCAAF .one = 0xE19955F ∧ rotl28 0xF0CCAAF .two = 0xC332ABF ∧ rotl28 0x8000000 .one = 0x0000001 ∧
    rotl28 0xC000000 .two = 0x0000003 ∧ rotl28 0x5555555 .one = 0xAAAAAAA ∧
    nibbleJoin #v[0x5, 0xC, 0x8, 0x2, 0xB, 0x5, 0x9, 0x7] = 0x5C82B597 := by decide +kernel

/-! ## Key schedule and datapath (V20, V21, V30, V32, V33) -/

theorem test_schedule_halves :
    keyHalvesStart tables 0x133457799BBCDFF1 = ⟨0xF0CCAAF, 0x556678F⟩ ∧
    keyHalvesAfter tables 0x133457799BBCDFF1 8 = ⟨0x557F866, 0x3C7AAB3⟩ ∧
    keyHalvesAfter tables 0x133457799BBCDFF1 15 = ⟨0xF0CCAAF, 0x556678F⟩ := by decide +kernel

theorem test_schedule_keys : keySchedule tables 0x133457799BBCDFF1 =
    #v[0x1B02EFFC7072, 0x79AED9DBC9E5, 0x55FC8A42CF99, 0x72ADD6DB351D, 0x7CEC07EB53A8, 0x63A53E507B2F,
       0xEC84B7F618BC, 0xF78A3AC13BFB, 0xE0DBEBEDE781, 0xB1F347BA464F, 0x215FD3DED386, 0x7571F59467E9,
       0x97C5D1FABA41, 0x5F43B7F2E73A, 0xBF918D3D3F0A, 0xCB3D8B0E17F5] := by decide +kernel

theorem test_round_function :
    roundFunction tables 0x00000000 0x000000000000 = 0xD8D8DBBC ∧
    roundFunction tables 0xFFFFFFFF 0x000000000000 = 0x38DBF9CB ∧
    roundFunction tables 0x00000000 0xFFFFFFFFFFFF = 0x38DBF9CB ∧
    roundFunction tables 0xF0AAF0AA 0x1B02EFFC7072 = 0x234AA9BB := by decide +kernel

theorem test_rounds :
    initialHalves tables 0x0123456789ABCDEF = ⟨0xCC00CCFF, 0xF0AAF0AA⟩ ∧
    feistelRound tables ⟨0xCC00CCFF, 0xF0AAF0AA⟩ 0x1B02EFFC7072 = ⟨0xF0AAF0AA, 0xEF4A6544⟩ ∧
    feistelRounds tables (keySchedule tables 0x133457799BBCDFF1) .encrypt ⟨0xCC00CCFF, 0xF0AAF0AA⟩ =
      ⟨0x43423234, 0x0A4CD995⟩ ∧
    finalBlock tables ⟨0x43423234, 0x0A4CD995⟩ = 0x85E813540F0AB405 := by decide +kernel

/-! ## Commands, one step each (V40 to V69) -/

/-- V60, V61, V62, V63: the errors of `CONSTRUCT`. -/
theorem test_construct_errors :
    seen (exec (.construct .encrypt (keyK.take 7) ivV) emptyEngine) =
      some (some [0x01, 0x00], .empty, 0x5555555555555555) ∧
    seen (exec (.construct .encrypt weak8 [0, 0, 0]) emptyEngine) =
      some (some [0x03, 0x00], .empty, 0x5555555555555555) ∧
    seen (exec (.construct .encrypt semiWeak8 ivV) emptyEngine) =
      some (some [0x04, 0x00], .empty, 0x5555555555555555) ∧
    seen (exec (.construct .decrypt keyK (ivV.take 7)) emptyEngine) =
      some (some [0x02, 0x00], .empty, 0x5555555555555555) := by decide +kernel

/-- P1 step 1. -/
theorem test_construct_ok : after (exec (.construct .encrypt keyK ivV) emptyEngine) =
    some { readyEngine .encrypt with outbox := [[0x00, 0x00]] } := by decide +kernel

/-- P1 step 2 and P1d step 3: the `CHAIN` of each direction. -/
theorem test_xform_block :
    seen (exec (.xform block1) (readyEngine .encrypt)) =
      some (some (0x00 :: 0x08 :: cipher1), .ready, 0xE5C7CDDE872BF27C) ∧
    seen (exec (.xform cipher1) (readyEngine .decrypt)) =
      some (some (0x00 :: 0x08 :: block1), .ready, 0xE5C7CDDE872BF27C) := by decide +kernel

/-- V65, V68 and P3 step 13. -/
theorem test_xform_lengths :
    seen (exec (.xform []) (readyEngine .decrypt)) = some (some [0x00, 0x00], .ready, 0x1234567890ABCDEF) ∧
    seen (exec (.xform [1, 2, 3, 4, 5]) (readyEngine .decrypt)) = some (some [0x05, 0x00], .ready, 0x1234567890ABCDEF) ∧
    seen (exec (.xform (block1 ++ block1)) (readyEngine .encrypt)) =
      some (some [0x05, 0x00], .ready, 0x1234567890ABCDEF) := by decide +kernel

/-- V52: the padded byte `41`. -/
theorem test_xfinal_pads : seen (exec (.xfinal [0x41])
      (engine .ready .encrypt 0xFEDCBA9876543210 (keySchedule tables 0x0123456789ABCDEF))) =
    some (some [0x00, 0x08, 0x94, 0x25, 0xA6, 0x39, 0x0D, 0xCA, 0x5D, 0xE6], .ready, 0x9425A6390DCA5DE6) := by
  decide +kernel

/-- V66, P1d step 5 and V73. -/
theorem test_xfinal_lengths :
    seen (exec (.xfinal [1, 2, 3, 4, 5]) (readyEngine .decrypt)) = some (some [0x06, 0x00], .ready, 0x1234567890ABCDEF) ∧
    seen (exec (.xfinal []) (readyEngine .decrypt)) = some (some [0x00, 0x00], .ready, 0x1234567890ABCDEF) ∧
    faultSeen (send (0x03 :: 0x09 :: List.replicate 9 0) (readyEngine .encrypt)) =
      some (.faulted, some .badFrame, 0) := by decide +kernel

/-- P1 step 5. -/
theorem test_dispose : ∃ t, exec .dispose (readyEngine .encrypt) = .next t ∧ t.life = .disposed ∧
    t.keys = Vector.replicate 16 0 ∧ t.outbox = [[0x00, 0x00]] := ⟨_, rfl, rfl, rfl, rfl⟩

/-- V40, V42, V43, V44 for `ISWEAK`. -/
theorem test_isweak :
    seen (exec (.isweak [0x1F, 0x1F, 0x1F, 0x1F, 0x0E, 0x0E, 0x0E, 0x0E]) disposedEngine) =
      some (some [0x00, 0x01, 0x01], .disposed, 0x5555555555555555) ∧
    seen (exec (.isweak (List.replicate 7 0xFE ++ [0xFF])) emptyEngine) =
      some (some [0x00, 0x01, 0x00], .empty, 0x5555555555555555) ∧
    seen (exec (.isweak (List.replicate 9 0x01)) emptyEngine) =
      some (some [0x01, 0x00], .empty, 0x5555555555555555) := by decide +kernel

/-- V41, V42, V43 for `ISSEMIWEAK`. -/
theorem test_issemiweak :
    seen (exec (.issemiweak [0xE0, 0xFE, 0xE0, 0xFE, 0xF1, 0xFE, 0xF1, 0xFE]) emptyEngine) =
      some (some [0x00, 0x01, 0x01], .empty, 0x5555555555555555) ∧
    seen (exec (.issemiweak weak8) emptyEngine) = some (some [0x00, 0x01, 0x00], .empty, 0x5555555555555555) ∧
    seen (exec (.issemiweak []) emptyEngine) = some (some [0x01, 0x00], .empty, 0x5555555555555555) := by
  decide +kernel

/-- V69. -/
theorem test_config :
    seen (exec (.config (.other 0x01) .zeroFill) emptyEngine) = some (some [0x08, 0x00], .empty, 0x5555555555555555) ∧
    seen (exec (.config .cbc (.other 0x01)) emptyEngine) = some (some [0x07, 0x00], .empty, 0x5555555555555555) ∧
    seen (exec (.config (.other 0x01) (.other 0x01)) emptyEngine) =
      some (some [0x08, 0x00], .empty, 0x5555555555555555) ∧
    seen (exec (.config .cbc .zeroFill) emptyEngine) = some (some [0x00, 0x00], .empty, 0x5555555555555555) := by
  decide +kernel

/-! ## Faults (V70 to V75; P5) -/

theorem test_faults :
    faultSeen (send (0x02 :: 0x08 :: List.replicate 8 0) emptyEngine) = some (.faulted, some .notConstructed, 0) ∧
    faultSeen (send (0x01 :: 0x00 :: 0x08 :: (keyK ++ 0x08 :: ivV)) (readyEngine .encrypt)) =
      some (.faulted, some .alreadyConstructed, 0) ∧
    faultSeen (send [0x04] disposedEngine) = some (.faulted, some .useAfterDispose, 0) ∧
    faultSeen (send [0x00] disposedEngine) = some (.faulted, some .badFrame, 0) ∧
    faultSeen (send [0x07, 0x00, 0x00] faultedEngine) = some (.faulted, some .badFrame, 0) := by decide +kernel

/-! ## The host's side (V45, R82) -/

/-- V45: three draws. -/
theorem test_genkey : genKeyFrom
    (fun n => split8 (if n = 0 then 0x0101010101010101 else if n = 1 then 0x01FE01FE01FE01FE else 0x133457799BBCDFF1))
    5 0 = some ([0x13, 0x34, 0x57, 0x79, 0x9B, 0xBC, 0xDF, 0xF1], 3) := by decide +kernel

/-- V45 as commands on an engine: `ISWEAK` and `ISSEMIWEAK` for each of three draws, the last two answered false; and on
a `Faulted` engine no key. -/
theorem test_genkey_commands :
    (match genKeyBy exec (fun n => if n = 0 then weak8 else if n = 1 then semiWeak8 else keyK) 5 0 disposedEngine with
      | .next (found, t) => some (found, t.life, t.outbox)
      | .fault _ => none
      | .refused _ => none) =
      some (some (keyK, 3), .disposed,
        [[0x00, 0x01, 0x01], [0x00, 0x01, 0x00], [0x00, 0x01, 0x00], [0x00, 0x01, 0x01],
         [0x00, 0x01, 0x00], [0x00, 0x01, 0x00]]) ∧
    (match genKeyBy exec (fun _ => keyK) 5 0 faultedEngine with
      | .next _ => false
      | .fault .noStepWhenFaulted => true
      | .refused _ => false) = true := by decide +kernel

/-- With another `WEAK_SET` (R10, R177) the engine refuses another key. -/
theorem test_other_sets :
    seen (execWith ⟨tables, ⟨[0x0123456789ABCDEF], []⟩⟩ (.construct .encrypt keyK ivV) emptyEngine) =
      some (some [0x03, 0x00], .empty, 0x5555555555555555) ∧
    seen (execWith ⟨tables, ⟨[0x0123456789ABCDEF], []⟩⟩ (.isweak weak8) emptyEngine) =
      some (some [0x00, 0x01, 0x00], .empty, 0x5555555555555555) := by decide +kernel

/-- The lines of R82 and of `45_cbc.md` R182 and R195. -/
theorem test_text :
    exchangeText (.xform [0x01, 0x23, 0x45, 0x67, 0x89, 0xAB, 0xCD, 0xEF]) .ok
      [0x85, 0xE8, 0x13, 0x54, 0x0F, 0x0A, 0xB4, 0x05] =
      "XFORM 01 23 45 67 89 AB CD EF -> OK 85 E8 13 54 0F 0A B4 05".toList ∧
    exchangeText .dispose .ok [] = "DISPOSE -> OK".toList ∧
    exchangeText (.isweak weak8) .ok [0x01] = "ISWEAK 01 01 01 01 01 01 01 01 -> OK true".toList := by decide +kernel

/-! ## Witnesses: for each statement with hypotheses, values that meet all of them together -/

/-- The longest and shortest operands, and every code that is not zero. -/
theorem witness_DecodeOfEncode :
    (Instr.construct .decrypt (List.replicate 255 0xFF) []).wellFormed = true ∧
    (Instr.xform (List.replicate 255 0)).wellFormed = true ∧ (Instr.xfinal (List.replicate 8 0)).wellFormed = true ∧
    Instr.dispose.wellFormed = true ∧ (Instr.isweak (List.replicate 255 0)).wellFormed = true ∧
    (Instr.issemiweak []).wellFormed = true ∧ (Instr.config (.other 0x01) (.other 0xFF)).wellFormed = true := by
  decide +kernel

theorem witness_EncodeOfDecode : decodeFrame [0x03, 0x08, 1, 2, 3, 4, 5, 6, 7, 8] = .ok (.xfinal [1, 2, 3, 4, 5, 6, 7, 8]) := by
  decide

/-- The values where the clauses of R80 begin and end, and the values just outside, which are commands. -/
theorem witness_ReservedFramesFault :
    emptyEngine.life ≠ .faulted ∧
    (emptyEngine.offerFrame [0x08]).inbox = .frame [0x08] :: emptyEngine.inbox ∧
    (0x08 ≤ (0x08 : Byte).toNat ∧ 0x08 ≤ (0xFF : Byte).toNat ∧ 0x02 ≤ (0x02 : Byte).toNat ∧ 9 ≤ (0x09 : Byte).toNat) ∧
    (0 < (encode .dispose).length ∧ 2 < (encode (.xform [0x00])).length) ∧
    ([0x00] : List Byte) ≠ [] ∧
    (Instr.xfinal (List.replicate 8 0)).wellFormed = true ∧ (Instr.construct .decrypt [] []).wellFormed = true := by
  decide

theorem witness_StepRunsDecodedFrame :
    emptyEngine.life ≠ .faulted ∧ (emptyEngine.offerFrame [0x04]).inbox = .frame [0x04] :: [] ∧ decodeFrame [0x04] = .ok .dispose := by decide

theorem witness_StepOnSilenceAndReset :
    faultedEngine.inbox = [] ∧ (faultedEngine.setInbox [.reset, .reset]).inbox = .reset :: [.reset] := by decide

theorem witness_FaultedIgnoresEveryFrame :
    faultedEngine.life = .faulted ∧ (faultedEngine.offerFrame [0x04]).inbox = .frame [0x04] :: [] := by decide

/-- A state of each row, and an engine that reset takes out of `Faulted`. -/
theorem witness_LifecycleTable :
    emptyEngine.life = .empty ∧ (readyEngine .encrypt).life = .ready ∧ disposedEngine.life = .disposed ∧
    faultedEngine.life = .faulted ∧ disposedEngine.life ≠ .faulted ∧ block1.length ≤ 8 ∧
    ∃ t, step (faultedEngine.setInbox [.reset]) = .next t := ⟨rfl, rfl, rfl, rfl, by decide, by decide, _, rfl⟩

theorem witness_ConstructFollowsItsSteps :
    emptyEngine.life = .empty ∧ (readyEngine .decrypt).life = .ready ∧ disposedEngine.life = .disposed ∧
    (keyK.take 7).length ≠ 8 ∧ (0x00 :: keyK).length ≠ 8 ∧
    (weak8.length = 8 ∧ join8 weak8 ∈ keySets.weak) ∧ (semiWeak8.length = 8 ∧ join8 semiWeak8 ∈ keySets.semiWeak) ∧
    (keyK.length = 8 ∧ join8 keyK ∉ keySets.weak ∧ join8 keyK ∉ keySets.semiWeak) ∧
    (ivV.take 7).length ≠ 8 ∧ ivV.length = 8 := by decide +kernel

theorem witness_XformOutcome :
    ((readyEngine .encrypt).life = .ready ∧ (readyEngine .encrypt).dir = .encrypt) ∧
    ((readyEngine .decrypt).life = .ready ∧ (readyEngine .decrypt).dir = .decrypt) ∧ ([] : List Byte).length = 0 ∧
    ((block1.take 1).length ≠ 0 ∧ (block1.take 1).length ≠ 8) ∧ ((0x00 :: block1).length ≠ 0 ∧ (0x00 :: block1).length ≠ 8) ∧
    block1.length = 8 := by refine ⟨⟨rfl, rfl⟩, ⟨rfl, rfl⟩, ?_⟩; decide

theorem witness_XfinalOutcome :
    ((readyEngine .encrypt).life = .ready ∧ (readyEngine .encrypt).dir = .encrypt) ∧
    ((readyEngine .decrypt).life = .ready ∧ (readyEngine .decrypt).dir = .decrypt) ∧ ([] : List Byte).length = 0 ∧
    (1 ≤ (block1.take 1).length ∧ (block1.take 1).length ≤ 7) ∧ (1 ≤ (block1.take 7).length ∧ (block1.take 7).length ≤ 7) ∧
    (block1.length = 8 ∧ 1 ≤ block1.length ∧ block1.length ≤ 8) ∧ 9 ≤ (0x00 :: block1).length := by
  refine ⟨⟨rfl, rfl⟩, ⟨rfl, rfl⟩, ?_⟩; decide

theorem witness_XfinalOfFullBlockIsXform : block1.length = 8 := by decide

theorem witness_DisposeOutcome : (readyEngine .decrypt).life = .ready ∧ (block1.take 8).length ≤ 8 := ⟨rfl, by decide⟩

theorem witness_IsWeakOutcome :
    disposedEngine.life ≠ .faulted ∧ (List.replicate 7 (0x01 : Byte)).length ≠ 8 ∧ weak8.length = 8 ∧ keyK.length = 8 := by
  decide

theorem witness_IsSemiWeakOutcome :
    emptyEngine.life ≠ .faulted ∧ (List.replicate 9 (0x01 : Byte)).length ≠ 8 ∧ semiWeak8.length = 8 ∧
    weak8.length = 8 := by decide

theorem witness_ConfigOutcome :
    emptyEngine.life ≠ .faulted ∧ CipherMode.other 0xFF ≠ .cbc ∧ Padding.other 0x01 ≠ .zeroFill := by decide

/-- Both kinds of error: one that writes nothing and one that zeroes the subkeys. -/
theorem witness_ErrorsKeepTheRegisters :
    (∃ t, Status.invalidBlockLength ≠ .ok ∧ exec (.xform [0x01]) (readyEngine .encrypt) = .next t ∧
      t.outbox = (readyEngine .encrypt).outbox ++ [[statusByte .invalidBlockLength, 0x00]]) ∧
    (∃ t, Status.invalidIVSize ≠ .ok ∧ exec (.construct .encrypt keyK []) emptyEngine = .next t ∧
      t.outbox = emptyEngine.outbox ++ [[statusByte .invalidIVSize, 0x00]]) :=
  ⟨⟨_, by decide, rfl, rfl⟩, ⟨constructBody params .encrypt keyK [] emptyEngine, by decide,
    gated_runs (k := .construct) (s := emptyEngine) rfl _, by decide +kernel⟩⟩

theorem witness_RetryGivesTheSameError :
    (∃ t, Status.invalidBlockLength ≠ .ok ∧ exec (.xform [0x01]) (readyEngine .encrypt) = .next t ∧
      t.outbox = (readyEngine .encrypt).outbox ++ [[statusByte .invalidBlockLength, 0x00]]) ∧
    (∃ t, Status.invalidIVSize ≠ .ok ∧ exec (.construct .encrypt keyK []) emptyEngine = .next t ∧
      t.outbox = emptyEngine.outbox ++ [[statusByte .invalidIVSize, 0x00]]) :=
  ⟨⟨_, by decide, rfl, rfl⟩, ⟨constructBody params .encrypt keyK [] emptyEngine, by decide,
    gated_runs (k := .construct) (s := emptyEngine) rfl _, by decide +kernel⟩⟩

/-- A fault, an error and a success. -/
theorem witness_FrameOfConstruct :
    (∃ t, exec (.construct .encrypt keyK ivV) disposedEngine = .next t) ∧
    (∃ t, exec (.construct .encrypt [] ivV) emptyEngine = .next t) ∧
    (∃ t, exec (.construct .encrypt keyK ivV) emptyEngine = .next t) := ⟨⟨_, rfl⟩, ⟨_, rfl⟩, ⟨_, rfl⟩⟩

theorem witness_FrameOfTransforms :
    (∃ t, exec (.xform block1) emptyEngine = .next t) ∧ (∃ t, exec (.xform [0x01]) (readyEngine .encrypt) = .next t) ∧
    (∃ t, exec (.xform block1) (readyEngine .encrypt) = .next t) ∧
    (∃ t, exec (.xfinal [0x01]) (readyEngine .decrypt) = .next t) ∧
    (∃ t, exec (.xfinal [0x01]) (readyEngine .encrypt) = .next t) :=
  ⟨⟨_, rfl⟩, ⟨_, rfl⟩, ⟨_, rfl⟩, ⟨_, rfl⟩, ⟨_, rfl⟩⟩

theorem witness_FrameOfDispose :
    (∃ t, exec .dispose emptyEngine = .next t) ∧ ∃ t, exec .dispose (readyEngine .encrypt) = .next t :=
  ⟨⟨_, rfl⟩, ⟨_, rfl⟩⟩

theorem witness_FrameOfStatelessCommands :
    (∃ t, exec (.isweak weak8) disposedEngine = .next t) ∧ (∃ t, exec (.issemiweak []) emptyEngine = .next t) ∧
    (∃ t, exec (.config .cbc (.other 0x01)) (readyEngine .encrypt) = .next t) := ⟨⟨_, rfl⟩, ⟨_, rfl⟩, ⟨_, rfl⟩⟩

theorem witness_ReadyInstanceKeepsKeysAndDirection :
    (readyEngine .encrypt).life = .ready ∧ Instr.xform block1 ≠ .dispose ∧
    ∃ t, exec (.xform block1) (readyEngine .encrypt) = .next t := ⟨rfl, by decide, _, rfl⟩

theorem witness_ChainHoldsTheCiphertext :
    block1.length = 8 ∧
    ((readyEngine .encrypt).life = .ready ∧ (readyEngine .encrypt).dir = .encrypt ∧
      ∃ t, exec (.xform block1) (readyEngine .encrypt) = .next t) ∧
    ((readyEngine .decrypt).life = .ready ∧ (readyEngine .decrypt).dir = .decrypt ∧
      ∃ t, exec (.xform block1) (readyEngine .decrypt) = .next t) :=
  ⟨by decide, ⟨rfl, rfl, _, rfl⟩, ⟨rfl, rfl, _, rfl⟩⟩

/-- A constructed engine and a faulted one, each with a step. -/
theorem witness_StepKeepsInv :
    (Inv ((readyEngine .encrypt).offerFrame [0x04]) ∧
      ∃ t, step ((readyEngine .encrypt).offerFrame [0x04]) = .next t) ∧
    (Inv (faultedEngine.setInbox [.reset]) ∧ ∃ t, step (faultedEngine.setInbox [.reset]) = .next t) := by
  refine ⟨⟨⟨fun _ => ⟨0x0123456789ABCDEF, by unfold ordinaryKey; decide +kernel, rfl⟩, ?_, ?_, ?_⟩, _, rfl⟩,
    ⟨⟨?_, ?_, ?_, ?_⟩, _, rfl⟩⟩ <;>
  simp [ReadyKeysScheduled, DisposedKeysZero, FaultReasonMatches, ResponsesWellFormed, readyEngine, engine,
    faultedEngine, emptyEngine]

/-- Two engines that differ in every secret, disposed of alike. -/
theorem witness_SecretsReachNoOtherResponse :
    (∀ data, Instr.dispose ≠ .xform data ∧ Instr.dispose ≠ .xfinal data) ∧
    (readyEngine .encrypt).life = (engine .ready .decrypt 0 (Vector.replicate 16 0)).life ∧
    (readyEngine .encrypt).outbox = (engine .ready .decrypt 0 (Vector.replicate 16 0)).outbox ∧
    (∃ t, exec .dispose (readyEngine .encrypt) = .next t) ∧
    ∃ t, exec .dispose (engine .ready .decrypt 0 (Vector.replicate 16 0)) = .next t :=
  ⟨fun _ => ⟨by simp, by simp⟩, rfl, rfl, ⟨_, rfl⟩, ⟨_, rfl⟩⟩

theorem witness_UnwrittenRegistersAreNotRead :
    emptyEngine.life = (engine .empty .encrypt 0 (Vector.replicate 16 0)).life ∧ emptyEngine.life ≠ .ready ∧
    emptyEngine.outbox = (engine .empty .encrypt 0 (Vector.replicate 16 0)).outbox := ⟨rfl, by decide, rfl⟩

theorem witness_StepReturnsAtMostOneResponse :
    (∃ t, step emptyEngine = .next t) ∧ (∃ t, step (emptyEngine.offerFrame [0x04]) = .next t) ∧
    ∃ t, step ((readyEngine .encrypt).offerFrame [0x04]) = .next t := ⟨⟨_, rfl⟩, ⟨_, rfl⟩, ⟨_, rfl⟩⟩

theorem witness_EnginesAreIndependent :
    (0 : Nat) ≠ 1 ∧ systemStep 0 [(readyEngine .encrypt).offerFrame [0x04], emptyEngine] ≠
      [(readyEngine .encrypt).offerFrame [0x04], emptyEngine] :=
  ⟨by decide, fun h => absurd (congrArg (fun l => l.map (·.life)) h) (by
    simp only [systemStep]; decide +kernel)⟩

/-- `PC1L` does not select bit 8, so two sources that differ there only agree on every entry. -/
theorem witness_PermIsLinearAndSelective :
    ∀ i, bitAt (0x0000000000000000 : Block) (tab tables.pc1l i) = bitAt (0x0100000000000000 : Block) (tab tables.pc1l i) := by
  decide +kernel

theorem witness_SplitInvertsJoin : keyK.length = 8 ∧ ([] : List Byte).length = 0 ∧ 0 < 8 ∧ 7 < 8 := by decide

theorem witness_BitsOfAJoinedBlock :
    keyK.length = 8 ∧ (0 < 8 ∧ 1 ≤ 1 ∧ 1 ≤ 8) ∧ (7 < 8 ∧ 1 ≤ 8 ∧ 8 ≤ 8) := by decide

theorem witness_RotationIsCyclic : 0 < 28 ∧ 27 < 28 := by decide

theorem witness_KeyScheduleAccumulates : 0 + 1 < 16 ∧ 14 + 1 < 16 := by decide

/-- KA1 and KA14: the same key with every parity bit flipped. -/
theorem witness_ParityBitsAreIgnored : ∀ p, 1 ≤ p → p ≤ 64 → p % 8 ≠ 0 →
    bitAt (0x133457799BBCDFF1 : Block) p = bitAt (0x123456789ABCDEF0 : Block) p := by
  have h : ∀ q : Fin 65, 1 ≤ q.val → q.val % 8 ≠ 0 →
      bitAt (0x133457799BBCDFF1 : Block) q.val = bitAt (0x123456789ABCDEF0 : Block) q.val := by decide +kernel
  exact fun p h1 h2 h3 => h ⟨p, by omega⟩ h1 h3

theorem witness_SchedulesOfClassifiedKeys :
    0x0101010101010101 ∈ weakSet ∧ (0xE0FEE0FEF1FEF1FE, 0xFEE0FEE0FEF1FEF1) ∈ semiWeakPairs := by decide +kernel

theorem witness_KnownAnswers : (0x133457799BBCDFF1, 0x0123456789ABCDEF, 0x85E813540F0AB405) ∈ knownAnswers := by
  decide +kernel

theorem witness_WeakKeysAreSelfInverse : 0xE0E0E0E0F1F1F1F1 ∈ weakSet := by decide +kernel

theorem witness_SemiWeakKeysPair : (0x01FE01FE01FE01FE, 0xFE01FE01FE01FE01) ∈ semiWeakPairs := by decide +kernel

theorem witness_ZeroPadFillsToABlock :
    (1 ≤ (block1.take 1).length ∧ (block1.take 1).length ≤ 8) ∧ (1 ≤ block1.length ∧ block1.length ≤ 8 ∧ block1.length = 8) := by
  decide

theorem witness_BlocksAreChained :
    ((readyEngine .encrypt).life = .ready ∧ (readyEngine .encrypt).dir = .encrypt) ∧
    ((readyEngine .decrypt).life = .ready ∧ (readyEngine .decrypt).dir = .decrypt) := ⟨⟨rfl, rfl⟩, rfl, rfl⟩

/-- The engine, key and IV that the stream statements ask for. -/
theorem witness_streams :
    emptyEngine.life = .empty ∧ keyK.length = 8 ∧ classify keySets (join8 keyK) = .ordinary ∧ ivV.length = 8 := by
  decide +kernel

theorem witness_EncryptStreamIsCbc :
    emptyEngine.life = .empty ∧ keyK.length = 8 ∧ ordinaryKey (join8 keyK) ∧ ivV.length = 8 := witness_streams

theorem witness_BothCutsOfAStreamAgree :
    (emptyEngine.life = .empty ∧ keyK.length = 8 ∧ ordinaryKey (join8 keyK) ∧ ivV.length = 8) ∧
    block1.length % 8 = 0 ∧ ([] : List Byte).length % 8 = 0 := ⟨witness_streams, by decide, by decide⟩

theorem witness_DecryptStreamIsCbc :
    (emptyEngine.life = .empty ∧ keyK.length = 8 ∧ ordinaryKey (join8 keyK) ∧ ivV.length = 8) ∧
    (cipher1 ++ [0x00]).length % 8 ≠ 0 := ⟨witness_streams, by decide⟩

theorem witness_StreamRoundTrip :
    (emptyEngine.life = .empty ∧ keyK.length = 8 ∧ ordinaryKey (join8 keyK) ∧ ivV.length = 8) ∧
    block1.length % 8 = 0 := ⟨witness_streams, by decide⟩

/-- A source that is refused once and then accepted, and one that is refused for good. -/
theorem witness_GeneratedKeysAreOrdinary :
    genKeyFrom (fun n => if n = 0 then weak8 else keyK) 2 0 = some (keyK, 2) ∧
    genKeyFrom (fun _ => semiWeak8) 3 0 = none := by decide +kernel

/-- A command that answers an error and one that faults are run too. -/
theorem witness_FramesRunTheirCommands :
    (∀ i ∈ [Instr.isweak [], Instr.dispose], i.wellFormed = true) ∧ emptyEngine.inbox = [] ∧
    ∃ t, runCommands [Instr.isweak [], Instr.dispose] emptyEngine = .next t := ⟨by decide, rfl, _, rfl⟩

theorem witness_StreamFramesEndDisposed :
    emptyEngine.inbox = [] ∧ emptyEngine.life = .empty ∧ keyK.length = 8 ∧ ordinaryKey (join8 keyK) ∧ ivV.length = 8 :=
  ⟨rfl, witness_streams⟩

/-! Parameters other than the defaults: permutations that leave every bit in its place, and one weak key. -/

def identityTable : Vector Nat 64 := Vector.ofFn fun i : Fin 64 => i.val + 1

def otherParams : Params := ⟨{ tables with ip := identityTable, fp := identityTable }, ⟨[0x0000000000000000], []⟩⟩

theorem perm_identityTable (b : Block) : perm identityTable b = b := by
  apply BitVec.eq_of_getMsbD_eq
  intro i hi
  simp [hi, bitAt, tab, identityTable]

theorem witness_CommandsUnderAnyParameters :
    emptyEngine.life = .empty ∧ emptyEngine.life ≠ .faulted ∧
    (weak8.length = 8 ∧ join8 weak8 ∈ params.keySets.weak) ∧
    (semiWeak8.length = 8 ∧ join8 semiWeak8 ∈ params.keySets.semiWeak) ∧
    (keyK.length = 8 ∧ join8 keyK ∉ params.keySets.weak ∧ join8 keyK ∉ params.keySets.semiWeak) ∧
    ((ivV.take 7).length ≠ 8 ∧ ivV.length = 8) ∧ block1.length = 8 ∧
    ((readyEngine .encrypt).life = .ready ∧ (readyEngine .encrypt).dir = .encrypt) ∧
    ((readyEngine .decrypt).life = .ready ∧ (readyEngine .decrypt).dir = .decrypt) := by
  refine ⟨rfl, ?_, ?_, ?_, ?_, ?_, ?_, ⟨rfl, rfl⟩, ⟨rfl, rfl⟩⟩ <;> decide +kernel

theorem witness_StreamRoundTripUnderAnyTables :
    FinalInvertsInitial otherParams.tables ∧ emptyEngine.life = .empty ∧ keyK.length = 8 ∧
    classify otherParams.keySets (join8 keyK) = .ordinary ∧ ivV.length = 8 :=
  ⟨fun b => ⟨(perm_identityTable _).trans (perm_identityTable b), (perm_identityTable _).trans (perm_identityTable b)⟩,
    rfl, by decide, by decide +kernel, by decide⟩

/-- Both kinds of engine, and sources on which the loop finds a key and does not. -/
theorem witness_GenkeyAsksTheEngine :
    (∀ n, ((fun n : Nat => if n = 0 then weak8 else keyK) n).length = 8) ∧ emptyEngine.life ≠ .faulted ∧
    genKeyIn params.keySets (fun n => if n = 0 then weak8 else keyK) 2 0 = some (keyK, 2) ∧
    genKeyIn params.keySets (fun _ => weak8) 2 0 = none ∧ faultedEngine.life = .faulted ∧ 0 < 1 := by
  refine ⟨fun n => ?_, ?_, ?_, ?_, rfl, by decide⟩
  · dsimp only
    split <;> rfl
  all_goals decide +kernel

theorem witness_GeneratedKeysConstruct :
    emptyEngine.life = .empty ∧ ivV.length = 8 ∧
    ∃ t, genKeyBy (execWith params) (fun _ => keyK) 1 0 emptyEngine = .next (some (keyK, 1), t) :=
  ⟨rfl, rfl, _, rfl⟩

end Sys2Proof.Tests
end

section
/-! Proofs of the family of `20_memory.md`: how a step takes a frame (R59, R78). -/

namespace Sys2Proof.Machine

/-- A frame waiting is taken off, whatever it holds and however commands are run. -/
theorem stepBy_frame (run : Runner) {s : State} {bytes : List Byte} {rest : List HostEvent}
    (hin : s.inbox = .frame bytes :: rest) : stepBy run s = runFrame run bytes (s.setInbox rest) := by
  simp only [stepBy, takeEvent_cons hin, runEvent]

/-- Outside `Faulted`, of the three things a frame can do only the run of its command is left when it decodes. -/
theorem runFrame_of_decodes (run : Runner) {s : State} {bytes : List Byte} {i : Instr}
    (hlife : s.life ≠ .faulted) (hdec : decodeFrame bytes = .ok i) : runFrame run bytes s = run i s := by
  rcases runFrame_cases run bytes s with ⟨hfaulted, -⟩ | ⟨-, j, hj, hrun⟩ | ⟨-, e, herr, -⟩
  · exact absurd hfaulted hlife
  · obtain rfl : j = i := Except.ok.inj (hj.symm.trans hdec)
    exact hrun
  · cases herr.symm.trans hdec

/-- The step of an engine, under any way to run commands, on a waiting frame that decodes (R59, R78). -/
theorem stepBy_decoded_frame (run : Runner) {s : State} {bytes : List Byte} {rest : List HostEvent} {i : Instr}
    (hlife : s.life ≠ .faulted) (hin : s.inbox = .frame bytes :: rest) (hdec : decodeFrame bytes = .ok i) :
    stepBy run s = run i (s.setInbox rest) :=
  (stepBy_frame run hin).trans (runFrame_of_decodes run hlife hdec)

/-- Settles O5: `step` is `stepBy exec`, and taking the frame off is `State.setInbox`. -/
theorem stepRunsDecodedFrame : Obligations.StepRunsDecodedFrame :=
  fun _ _ _ _ hlife hin hdec => stepBy_decoded_frame exec hlife hin hdec

end Sys2Proof.Machine
end

section
/-! Proofs of the family of `30_encoding.md`: what each field reader accepts (R71, R75, R76, R80 (c)). -/

namespace Sys2Proof

/-! ## Fields -/

/-- A sequence of reads succeeds exactly when the first read does and the rest does on its result. -/
theorem exceptBind_eq_ok_iff {ε α β : Type} {x : Except ε α} {f : α → Except ε β} {b : β} :
    x >>= f = .ok b ↔ ∃ a, x = .ok a ∧ f a = .ok b := by
  cases x with
  | error e => simp [bind, Except.bind]
  | ok a => simp [bind, Except.bind]

theorem fitsLengthByte_iff {data : List Byte} : fitsLengthByte data = true ↔ data.length ≤ 255 := by
  simp [fitsLengthByte]

theorem lengthByte_toNat {data : List Byte} (h : data.length ≤ 255) : (lengthByte data).toNat = data.length := by
  simp only [lengthByte, BitVec.toNat_ofNat]
  omega

theorem lengthByte_take {n : Byte} {bytes : List Byte} (h : n.toNat ≤ bytes.length) :
    lengthByte (bytes.take n.toNat) = n := by
  simp [lengthByte, h]

theorem readByte_eq_ok_iff {bytes rest : List Byte} {b : Byte} :
    readByte bytes = .ok (b, rest) ↔ bytes = b :: rest := by
  cases bytes with
  | nil => simp [readByte]
  | cons c cs => simp [readByte]

/-- A byte string operand is read back from its encoding, and from nothing else (R71). -/
theorem readString_eq_ok_iff {bytes data rest : List Byte} :
    readString bytes = .ok (data, rest) ↔ fitsLengthByte data = true ∧ bytes = encodeString data ++ rest := by
  rw [fitsLengthByte_iff]
  constructor
  · intro h
    cases bytes with
    | nil => cases h
    | cons n tail =>
      by_cases hn : n.toNat ≤ tail.length
      · obtain ⟨rfl, rfl⟩ : tail.take n.toNat = data ∧ tail.drop n.toNat = rest := by simpa [readString, hn] using h
        have hlt := n.isLt
        exact ⟨by rw [List.length_take]; omega, by simp [encodeString, lengthByte_take hn]⟩
      · simp [readString, hn] at h
  · rintro ⟨hlen, rfl⟩
    simp [encodeString, readString, lengthByte_toNat hlen]

theorem readFinalString_cons_eq_ok_iff {n : Byte} {tail data rest : List Byte} :
    readFinalString (n :: tail) = .ok (data, rest) ↔ n.toNat ≤ 8 ∧ readString (n :: tail) = .ok (data, rest) := by
  by_cases hn : n.toNat ≤ 8
  · simp [readFinalString, hn]
  · simp [readFinalString, hn]

/-- The data of `XFINAL` is read as any byte string, with the bound on its length byte a bound on its length
(R80 (c)). -/
theorem readFinalString_eq_ok_iff {bytes data rest : List Byte} :
    readFinalString bytes = .ok (data, rest) ↔ data.length ≤ 8 ∧ bytes = encodeString data ++ rest := by
  cases bytes with
  | nil => simp [readFinalString, encodeString]
  | cons n tail =>
    have hbound (hlen : data.length ≤ 255) (heq : n :: tail = encodeString data ++ rest) :
        n.toNat = data.length := by
      obtain ⟨rfl, -⟩ := List.cons.inj heq
      exact lengthByte_toNat hlen
    rw [readFinalString_cons_eq_ok_iff, readString_eq_ok_iff, fitsLengthByte_iff]
    constructor
    · rintro ⟨hn, hlen, heq⟩
      exact ⟨hbound hlen heq ▸ hn, heq⟩
    · rintro ⟨hlen, heq⟩
      have h255 : data.length ≤ 255 := by omega
      exact ⟨(hbound h255 heq).symm ▸ hlen, h255, heq⟩

theorem directionOfByte_eq_ok_iff {b : Byte} {d : Direction} : directionOfByte b = .ok d ↔ b = directionByte d := by
  constructor
  · intro h
    unfold directionOfByte at h
    split at h
    case h_1 hb => cases h; exact BitVec.eq_of_toNat_eq hb
    case h_2 hb => cases h; exact BitVec.eq_of_toNat_eq hb
    case h_3 => cases h
  · rintro rfl
    cases d <;> rfl

theorem modeOfByte_eq_iff {b : Byte} {m : CipherMode} :
    modeOfByte b = m ↔ m.wellFormed = true ∧ b = modeByte m := by
  cases m with
  | cbc => simp [modeOfByte, CipherMode.wellFormed, modeByte]
  | other code => grind [modeOfByte, CipherMode.wellFormed, modeByte]

theorem paddingOfByte_eq_iff {b : Byte} {p : Padding} :
    paddingOfByte b = p ↔ p.wellFormed = true ∧ b = paddingByte p := by
  cases p with
  | zeroFill => simp [paddingOfByte, Padding.wellFormed, paddingByte]
  | other code => grind [paddingOfByte, Padding.wellFormed, paddingByte]

/-! ## Frames: the decoder accepts the frames of the well-formed commands and nothing else (R70, R72, R78) -/

/-- What the fields after an opcode decode to is a well-formed command, written with that opcode and those fields. -/
theorem encode_of_decodeFields {opcode : Byte} {fields rest : List Byte} {i : Instr}
    (h : decodeFields opcode fields = .ok (i, rest)) :
    i.wellFormed = true ∧ opcode = opcodeByte i ∧ fields = operandBytes i ++ rest := by
  have hop {n : Nat} (hn : opcode.toNat = n) : opcode = BitVec.ofNat 8 n := by
    rw [← hn, BitVec.ofNat_toNat, BitVec.setWidth_eq]
  unfold decodeFields at h
  split at h <;>
    simp only [exceptBind_eq_ok_iff, readByte_eq_ok_iff, readString_eq_ok_iff, readFinalString_eq_ok_iff,
      directionOfByte_eq_ok_iff, Prod.exists, Except.ok.injEq, Prod.mk.injEq, reduceCtorEq] at h
  case h_1 hn =>
    obtain ⟨_, _, rfl, dir, rfl, key, _, ⟨hkey, rfl⟩, iv, _, ⟨hiv, rfl⟩, rfl, rfl⟩ := h
    exact ⟨by simp [Instr.wellFormed, hkey, hiv], hop hn, by simp [operandBytes]⟩
  case h_2 hn =>
    obtain ⟨data, _, ⟨hdata, rfl⟩, rfl, rfl⟩ := h
    exact ⟨hdata, hop hn, rfl⟩
  case h_3 hn =>
    obtain ⟨data, _, ⟨hdata, rfl⟩, rfl, rfl⟩ := h
    exact ⟨decide_eq_true hdata, hop hn, rfl⟩
  case h_4 hn =>
    obtain ⟨rfl, rfl⟩ := h
    exact ⟨rfl, hop hn, rfl⟩
  case h_5 hn =>
    obtain ⟨key, _, ⟨hkey, rfl⟩, rfl, rfl⟩ := h
    exact ⟨hkey, hop hn, rfl⟩
  case h_6 hn =>
    obtain ⟨key, _, ⟨hkey, rfl⟩, rfl, rfl⟩ := h
    exact ⟨hkey, hop hn, rfl⟩
  case h_7 hn =>
    obtain ⟨m, _, rfl, p, _, rfl, rfl, rfl⟩ := h
    obtain ⟨hm, hmode⟩ := modeOfByte_eq_iff.1 (Eq.refl (modeOfByte m))
    obtain ⟨hp, hpad⟩ := paddingOfByte_eq_iff.1 (Eq.refl (paddingOfByte p))
    exact ⟨by simp [Instr.wellFormed, hm, hp], hop hn, by simp [operandBytes, ← hmode, ← hpad]⟩

/-- The fields of a well-formed command are read back under its opcode, whatever bytes follow them. -/
theorem decodeFields_operandBytes_append {i : Instr} (hwf : i.wellFormed = true) (rest : List Byte) :
    decodeFields (opcodeByte i) (operandBytes i ++ rest) = .ok (i, rest) := by
  cases i with
  | construct dir key iv =>
    obtain ⟨hkey, hiv⟩ : fitsLengthByte key = true ∧ fitsLengthByte iv = true := by simpa [Instr.wellFormed] using hwf
    simp [opcodeByte, operandBytes, decodeFields, exceptBind_eq_ok_iff, readByte_eq_ok_iff, directionOfByte_eq_ok_iff,
      readString_eq_ok_iff, hkey, hiv]
  | xform data =>
    have hdata : fitsLengthByte data = true := hwf
    simp [opcodeByte, operandBytes, decodeFields, exceptBind_eq_ok_iff, readString_eq_ok_iff, hdata]
  | xfinal data =>
    have hdata : data.length ≤ 8 := of_decide_eq_true hwf
    simp [opcodeByte, operandBytes, decodeFields, exceptBind_eq_ok_iff, readFinalString_eq_ok_iff, hdata]
  | dispose => rfl
  | isweak key =>
    have hkey : fitsLengthByte key = true := hwf
    simp [opcodeByte, operandBytes, decodeFields, exceptBind_eq_ok_iff, readString_eq_ok_iff, hkey]
  | issemiweak key =>
    have hkey : fitsLengthByte key = true := hwf
    simp [opcodeByte, operandBytes, decodeFields, exceptBind_eq_ok_iff, readString_eq_ok_iff, hkey]
  | config mode pad =>
    obtain ⟨hmode, hpad⟩ : mode.wellFormed = true ∧ pad.wellFormed = true := by simpa [Instr.wellFormed] using hwf
    simp [opcodeByte, operandBytes, decodeFields, exceptBind_eq_ok_iff, readByte_eq_ok_iff, modeOfByte_eq_iff,
      paddingOfByte_eq_iff, hmode, hpad]

theorem decodeHead_eq_ok_iff {bytes rest : List Byte} {i : Instr} :
    decodeHead bytes = .ok (i, rest) ↔ i.wellFormed = true ∧ bytes = encode i ++ rest := by
  simp only [decodeHead, exceptBind_eq_ok_iff, Prod.exists, readByte_eq_ok_iff]
  constructor
  · rintro ⟨opcode, fields, rfl, h⟩
    obtain ⟨hwf, rfl, rfl⟩ := encode_of_decodeFields h
    exact ⟨hwf, rfl⟩
  · rintro ⟨hwf, rfl⟩
    exact ⟨_, _, rfl, decodeFields_operandBytes_append hwf rest⟩

/-- What the decoder accepts: exactly the frames of the well-formed commands (R70, R72, R78, R80). -/
theorem decodeFrame_eq_ok_iff {bytes : List Byte} {i : Instr} :
    decodeFrame bytes = .ok i ↔ i.wellFormed = true ∧ encode i = bytes := by
  have hwhole (j : Instr) (rest : List Byte) :
      (if rest = [] then Except.ok j else Except.error DecodeError.trailingBytes) = .ok i ↔ rest = [] ∧ j = i := by
    by_cases hrest : rest = []
    · simp [hrest]
    · simp [hrest]
  simp only [decodeFrame, exceptBind_eq_ok_iff, Prod.exists, decodeHead_eq_ok_iff, hwhole]
  constructor
  · rintro ⟨j, _, ⟨hwf, rfl⟩, rfl, rfl⟩
    exact ⟨hwf, (List.append_nil _).symm⟩
  · rintro ⟨hwf, rfl⟩
    exact ⟨i, [], ⟨hwf, (List.append_nil _).symm⟩, rfl, rfl⟩

/-- No frame begins another, and no two commands share one: a command's frame and the bytes after it
are told apart in one way. -/
theorem encode_append_inj {i j : Instr} (hi : i.wellFormed = true) (hj : j.wellFormed = true) {x y : List Byte}
    (h : encode i ++ x = encode j ++ y) : i = j ∧ x = y := by
  have hi' : decodeHead (encode j ++ y) = .ok (i, x) := decodeHead_eq_ok_iff.2 ⟨hi, h.symm⟩
  have hj' : decodeHead (encode j ++ y) = .ok (j, y) := decodeHead_eq_ok_iff.2 ⟨hj, rfl⟩
  exact Prod.mk.inj (Except.ok.inj (hi'.symm.trans hj'))

/-! ## The reserved and malformed frames are the frame of no command (R80) -/

theorem opcodeByte_range (i : Instr) : 0x01 ≤ (opcodeByte i).toNat ∧ (opcodeByte i).toNat ≤ 0x07 := by
  cases i <;> simp [opcodeByte]

theorem directionByte_le_one (d : Direction) : (directionByte d).toNat ≤ 0x01 := by
  cases d <;> simp [directionByte]

theorem encode_ne_reservedOpcode {opcode : Byte} (h : opcode = 0x00 ∨ 0x08 ≤ opcode.toNat) (i : Instr)
    (fields : List Byte) : encode i ≠ opcode :: fields := by
  intro heq
  obtain ⟨rfl, -⟩ := List.cons.inj heq
  obtain ⟨hlow, hhigh⟩ := opcodeByte_range i
  rcases h with hzero | hbig
  · simp [hzero] at hlow
  · omega

/-- Only `CONSTRUCT` has opcode `0x01`, and its `dir` byte is the code of a direction (R75, R80 (b)). -/
theorem encode_ne_reservedDirection {d : Byte} (h : 0x02 ≤ d.toNat) (i : Instr) (fields : List Byte) :
    encode i ≠ 0x01 :: d :: fields := by
  intro heq
  obtain ⟨hop, hfields⟩ := List.cons.inj heq
  cases i with
  | construct dir key iv =>
    obtain ⟨rfl, -⟩ := List.cons.inj hfields
    have := directionByte_le_one dir
    omega
  | _ => simp [opcodeByte] at hop

/-- Only `XFINAL` has opcode `0x03`, and a well-formed one has at most 8 bytes (R80 (c), R185). -/
theorem encode_ne_reservedFinalLength {n : Byte} (h : 9 ≤ n.toNat) {i : Instr} (hwf : i.wellFormed = true)
    (fields : List Byte) : encode i ≠ 0x03 :: n :: fields := by
  intro heq
  obtain ⟨hop, hfields⟩ := List.cons.inj heq
  cases i with
  | xfinal data =>
    obtain ⟨rfl, -⟩ := List.cons.inj hfields
    have hlen : data.length ≤ 8 := of_decide_eq_true hwf
    rw [lengthByte_toNat (by omega)] at h
    omega
  | _ => simp [opcodeByte] at hop

theorem encode_ne_truncated {i j : Instr} (hi : i.wellFormed = true) (hj : j.wellFormed = true) {k : Nat}
    (hk : k < (encode i).length) : encode j ≠ (encode i).take k := by
  intro heq
  have hsplit : encode i ++ [] = encode j ++ (encode i).drop k := by rw [heq, List.take_append_drop, List.append_nil]
  obtain ⟨-, hnil⟩ := encode_append_inj hi hj hsplit
  have hall : (encode i).length ≤ k := List.drop_eq_nil_iff.1 hnil.symm
  omega

theorem encode_ne_trailing {i j : Instr} (hi : i.wellFormed = true) (hj : j.wellFormed = true) {extra : List Byte}
    (hextra : extra ≠ []) : encode j ≠ encode i ++ extra := by
  intro heq
  obtain ⟨-, hnil⟩ := encode_append_inj hj hi ((List.append_nil _).trans heq)
  exact hextra hnil.symm

end Sys2Proof

namespace Sys2Proof.Machine

/-! ## The step on a frame -/

/-- Outside `Faulted`, bytes that are the frame of no well-formed command fault `BadFrame` (R80). -/
theorem stepBy_frame_of_no_command (run : Runner) {s : State} {bytes : List Byte} {rest : List HostEvent}
    (hlife : s.life ≠ .faulted) (hin : s.inbox = .frame bytes :: rest)
    (hnone : ∀ i : Instr, i.wellFormed = true → encode i ≠ bytes) :
    stepBy run s = .next (raiseFault .badFrame (s.setInbox rest)) := by
  rw [stepBy_frame run hin]
  rcases runFrame_cases run bytes (s.setInbox rest) with ⟨hfaulted, -⟩ | ⟨-, i, hdec, -⟩ | ⟨-, e, -, hrun⟩
  · exact absurd hfaulted hlife
  · obtain ⟨hwf, henc⟩ := decodeFrame_eq_ok_iff.1 hdec
    exact absurd henc (hnone i hwf)
  · exact hrun

/-! ## The obligations of the family -/

/-- Settles O1: one direction of what the decoder accepts. -/
theorem decodeOfEncode : Obligations.DecodeOfEncode :=
  fun _ hwf => decodeFrame_eq_ok_iff.2 ⟨hwf, rfl⟩

/-- Settles O2: the other direction of what the decoder accepts. -/
theorem encodeOfDecode : Obligations.EncodeOfDecode :=
  fun _ _ hdec => decodeFrame_eq_ok_iff.1 hdec

/-- Settles O3: the decoder run on each frame. -/
theorem sampleFramesDecode : Obligations.SampleFramesDecode := by
  unfold Obligations.SampleFramesDecode
  decide

/-- Settles O4: each clause of R80 describes bytes that are the frame of no well-formed command, and the frame of a
well-formed command decodes. -/
theorem reservedFramesFault : Obligations.ReservedFramesFault := by
  intro s bytes rest hlife hin
  refine ⟨fun hbad => stepBy_frame_of_no_command exec hlife hin fun j hj => ?_, ?_⟩
  · rcases hbad with ⟨opcode, fields, rfl, hop⟩ | ⟨d, fields, rfl, hd⟩ | ⟨n, fields, rfl, hn⟩ |
      ⟨i, k, hi, hk, rfl⟩ | ⟨i, extra, hi, hextra, rfl⟩
    · exact encode_ne_reservedOpcode hop j fields
    · exact encode_ne_reservedDirection hd j fields
    · exact encode_ne_reservedFinalLength hn hj fields
    · exact encode_ne_truncated hi hj hk
    · exact encode_ne_trailing hi hj hextra
  · rintro i hwf rfl
    exact stepBy_decoded_frame exec hlife hin (decodeOfEncode i hwf)

end Sys2Proof.Machine
end

section
/-! Proofs of the family of `41_bitops.md`: the primitive operations bit by bit and byte by byte (R120 to R126). -/

namespace Sys2Proof.Machine

/-! ## Permutations (R122) -/

/-- Only the source bits that the table names matter. -/
theorem perm_congr {n w : Nat} (t : Vector Nat n) {a b : BitVec w}
    (h : ∀ i, bitAt a (tab t i) = bitAt b (tab t i)) : perm t a = perm t b := by
  apply BitVec.eq_of_getMsbD_eq
  intro i hi
  simp only [perm_getMsbD, hi, dite_true, h]

theorem perm_xor {n w : Nat} (t : Vector Nat n) (a b : BitVec w) : perm t (a ^^^ b) = perm t a ^^^ perm t b := by
  apply BitVec.eq_of_getMsbD_eq
  intro i hi
  simp [hi]

/-! ## Bytes: `Join` and `Split` one byte at a time, from the least significant end (R120, R121) -/

theorem append_toNat {m n : Nat} (x : BitVec m) (y : BitVec n) : (x ++ y).toNat = 2 ^ n * x.toNat + y.toNat := by
  rw [BitVec.toNat_append, ← Nat.shiftLeft_add_eq_or_of_lt y.isLt, Nat.shiftLeft_eq, Nat.mul_comm]

/-- A byte after the others goes below them: the step of `Join` as a concatenation. -/
theorem join_concat (n : Nat) (b : List Byte) (x : Byte) : join (n + 1) (b ++ [x]) = join n b ++ x := by
  apply BitVec.eq_of_toNat_eq
  have hx := x.isLt
  have hpow : 2 ^ (8 * (n + 1)) = 256 * 2 ^ (8 * n) := by rw [Nat.mul_succ, Nat.pow_add, Nat.mul_comm]
  rw [append_toNat]
  simp only [join, List.foldl_append, List.foldl_cons, List.foldl_nil, BitVec.toNat_ofNat, hpow, Nat.mod_mul]
  generalize b.foldl (fun acc x => 256 * acc + x.toNat) 0 = high
  have hdiv : (256 * high + x.toNat) / 256 = high := by omega
  rw [hdiv]
  omega

theorem split_append_byte (n : Nat) (v : BitVec (8 * n)) (x : Byte) : split (n + 1) (v ++ x) = split n v ++ [x] := by
  have hhigh : ∀ i ∈ List.range n,
      (v ++ x).extractLsb' (8 * (n - i)) 8 = v.extractLsb' (8 * (n - 1 - i)) 8 := by
    intro i hi
    have := List.mem_range.1 hi
    rw [BitVec.extractLsb'_append_eq_of_le (by omega)]
    congr 1
    omega
  have hlow : (v ++ x).extractLsb' 0 8 = x := by
    rw [BitVec.extractLsb'_append_eq_of_add_le (by omega), BitVec.extractLsb'_eq_self]
  simpa [split, List.range_succ, hlow] using hhigh

theorem append_low_byte (n : Nat) (v : BitVec (8 * (n + 1))) :
    v.extractLsb' 8 (8 * n) ++ v.extractLsb' 0 8 = v :=
  (BitVec.extractLsb'_append_extractLsb'_eq_extractLsb' (Nat.zero_add 8).symm).trans BitVec.extractLsb'_eq_self

theorem join_split (n : Nat) (v : BitVec (8 * n)) : join n (split n v) = v := by
  induction n with
  | zero => exact BitVec.eq_of_toNat_eq (by omega)
  | succ n ih =>
    rw [← append_low_byte n v, split_append_byte, join_concat, ih]

theorem split_join {n : Nat} {b : List Byte} (h : b.length = n) : split n (join n b) = b := by
  subst h
  induction b using List.reverseRecOn with
  | nil => rfl
  | append_singleton b x ih =>
    rw [List.length_append, List.length_singleton, join_concat, split_append_byte, ih]

/-- Byte `i` of a split value, as R121 names it. -/
theorem split_getElem? {n : Nat} (v : BitVec (8 * n)) {i : Nat} (hi : i < n) :
    (split n v)[i]? = some (v.extractLsb' (8 * (n - 1 - i)) 8) := by
  simp [split, hi]

/-! ## Rotations (R125) -/

theorem rotl28_eq_rotateLeft (v : KeyHalf) (s : Shift) : rotl28 v s = v.rotateLeft (shiftAmount s) := by
  cases s <;> rfl

theorem rotl28_getMsbD (v : KeyHalf) (s : Shift) {i : Nat} (hi : i < 28) :
    (rotl28 v s).getMsbD i = v.getMsbD ((i + shiftAmount s) % 28) := by
  rw [rotl28_eq_rotateLeft, BitVec.getMsbD_rotateLeft, Nat.add_comm]
  simp [hi]

/-- Rotations one after another add their counts. -/
theorem foldl_rotl28_getMsbD (shifts : List Shift) (v : KeyHalf) {i : Nat} (hi : i < 28) :
    (shifts.foldl rotl28 v).getMsbD i = v.getMsbD ((i + (shifts.map shiftAmount).sum) % 28) := by
  induction shifts generalizing v with
  | nil => simp [Nat.mod_eq_of_lt hi]
  | cons s shifts ih =>
    rw [List.foldl_cons, ih, rotl28_getMsbD v s (Nat.mod_lt _ (by decide)), Nat.mod_add_mod, List.map_cons,
      List.sum_cons, Nat.add_assoc, Nat.add_comm (shiftAmount s)]

/-- Only the sum of the counts modulo 28 matters. -/
theorem foldl_rotl28_congr {xs ys : List Shift}
    (h : (xs.map shiftAmount).sum ≡ (ys.map shiftAmount).sum [MOD 28]) (v : KeyHalf) :
    xs.foldl rotl28 v = ys.foldl rotl28 v := by
  apply BitVec.eq_of_getMsbD_eq
  intro i hi
  rw [foldl_rotl28_getMsbD xs v hi, foldl_rotl28_getMsbD ys v hi, (h.add_left i : (i + _) % 28 = (i + _) % 28)]

/-! ## Groups and nibbles (R123, R124, R126) -/

/-- The groups are neighbouring slices, and so concatenate to the whole value. -/
theorem groups6_concat (x : Subkey) :
    (tab (groups6 x) 0 ++ tab (groups6 x) 1 ++ tab (groups6 x) 2 ++ tab (groups6 x) 3 ++
      tab (groups6 x) 4 ++ tab (groups6 x) 5 ++ tab (groups6 x) 6 ++ tab (groups6 x) 7 : BitVec 48) = x := by
  have hgroup (j : Fin 8) : tab (groups6 x) j = x.extractLsb' (42 - 6 * j.val) 6 := by simp [tab, groups6]
  simp only [hgroup]
  iterate 7 rw [BitVec.extractLsb'_append_extractLsb'_eq_extractLsb' (by decide)]
  exact BitVec.extractLsb'_eq_self

theorem outerIndex_toNat (g : Group) : (outerIndex g).toNat = 2 * (g.toNat / 32) + g.toNat % 2 := by
  have hg := g.isLt
  simp only [outerIndex, append_toNat, BitVec.extractLsb'_toNat, Nat.shiftRight_eq_div_pow]
  omega

theorem innerIndex_toNat (g : Group) : (innerIndex g).toNat = g.toNat / 2 % 16 := by
  simp [innerIndex, Nat.shiftRight_eq_div_pow]

/-- Reading nibble `j` drops the later nibbles one by one; the first has no nibble before it, the others are then the
low end of what is left. -/
theorem nibbleJoin_extract (n : Vector Nibble 8) (j : Fin 8) :
    (nibbleJoin n).extractLsb' (28 - 4 * j.val) 4 = tab n j := by
  unfold nibbleJoin
  fin_cases j
  all_goals repeat rw [BitVec.extractLsb'_append_eq_of_le (by decide)]
  · exact BitVec.extractLsb'_eq_self
  all_goals exact (BitVec.extractLsb'_append_eq_of_add_le (by decide)).trans BitVec.extractLsb'_eq_self

/-! ## The obligations of the family -/

/-- Settles O33: the bit equation is `perm_getMsbD`; linearity and selectivity follow from it bit by bit. -/
theorem permIsLinearAndSelective : Obligations.PermIsLinearAndSelective :=
  fun _ _ t a b => ⟨fun i => perm_getMsbD_fin t a i, perm_xor t a b, perm_congr t⟩

/-- Settles O35: both round trips go one byte at a time, from the least significant end. -/
theorem splitInvertsJoin : Obligations.SplitInvertsJoin :=
  fun n => ⟨join_split n, fun _ h => split_join h, fun v _ hi => split_getElem? v hi⟩

/-- Settles O37: two single rotations and one double have the same count, and twenty-eight single rotations
have the count of none. -/
theorem rotationIsCyclic : Obligations.RotationIsCyclic := by
  intro v
  refine ⟨fun s i hi => rotl28_getMsbD v s hi, ?_, ?_⟩
  · exact foldl_rotl28_congr (xs := [.one, .one]) (ys := [.two]) rfl v
  · rw [← List.foldl_map (f := fun _ => Shift.one) (g := rotl28)]
    exact foldl_rotl28_congr (ys := []) (by decide) v

/-- Settles O38: the groups are neighbouring slices, each index a slice of its group, each nibble a slice of the half. -/
theorem groupsAndNibblesKeepOrder : Obligations.GroupsAndNibblesKeepOrder :=
  ⟨groups6_concat, fun g => ⟨outerIndex_toNat g, innerIndex_toNat g⟩, nibbleJoin_extract⟩

end Sys2Proof.Machine
end

section
/-! Proofs of the family of `42_keyschedule.md`: the rotations of the sixteen rounds (R142). -/

namespace Sys2Proof.Machine

/-! ## The rounds accumulate, under any tables (R142) -/

theorem keyHalvesAfter_zero (T : Tables) (key : Block) :
    keyHalvesAfter T key 0 = rotateHalves T (keyHalvesStart T key) 0 := rfl

theorem keyHalvesAfter_succ (T : Tables) (key : Block) (r : Nat) (h : r + 1 < 16) :
    keyHalvesAfter T key ⟨r + 1, h⟩ = rotateHalves T (keyHalvesAfter T key ⟨r, by omega⟩) ⟨r + 1, h⟩ := by
  have htake : (List.finRange 16).take (r + 2) = (List.finRange 16).take (r + 1) ++ [⟨r + 1, h⟩] := by
    rw [List.take_succ_eq_append_getElem (by simpa using h), List.getElem_finRange]
    rfl
  simp only [keyHalvesAfter, htake, List.foldl_append, List.foldl_cons, List.foldl_nil]

/-! ## The rounds end where they began (R142) -/

/-- The two halves rotate independently, each by the amounts of the rounds. -/
theorem foldl_rotateHalves (T : Tables) (rounds : List (Fin 16)) (h : KeyHalves) :
    rounds.foldl (rotateHalves T) h =
      ⟨(rounds.map (tab T.rot)).foldl rotl28 h.c, (rounds.map (tab T.rot)).foldl rotl28 h.d⟩ := by
  induction rounds generalizing h with
  | nil => rfl
  | cons r rounds ih => exact ih (rotateHalves T h r)

/-- The sixteen amounts sum to 28, a full turn of a half. -/
theorem tableROT_sum : (((List.finRange 16).map (tab tables.rot)).map shiftAmount).sum = 28 := by decide

theorem foldl_rotl28_tableROT (v : KeyHalf) : ((List.finRange 16).map (tab tables.rot)).foldl rotl28 v = v :=
  foldl_rotl28_congr (ys := []) (by rw [tableROT_sum]; rfl) v

theorem keyHalvesAfter_last (key : Block) : keyHalvesAfter tables key 15 = keyHalvesStart tables key := by
  have hall : (List.finRange 16).take 16 = List.finRange 16 := List.take_of_length_le (by simp)
  calc keyHalvesAfter tables key 15
      = (List.finRange 16).foldl (rotateHalves tables) (keyHalvesStart tables key) :=
        congrArg (List.foldl _ _) hall
    _ = keyHalvesStart tables key := by rw [foldl_rotateHalves, foldl_rotl28_tableROT, foldl_rotl28_tableROT]

/-! ## The obligation of the family -/

/-- Settles O39: the rounds accumulate under any tables, and the amounts of `ROT` make one full turn. -/
theorem keyScheduleAccumulates : Obligations.KeyScheduleAccumulates :=
  fun key => ⟨keyHalvesAfter_zero tables key, keyHalvesAfter_succ tables key, tab_keySchedule tables key,
    keyHalvesAfter_last key⟩

end Sys2Proof.Machine
end

section
/-! Proofs of the family of `43_feistel.md`: the datapath is undone by its own rounds in reverse (R157), and the
known answers (R160). -/

namespace Sys2Proof.Machine
open Sys2Proof.Safety

/-! ## The permutation of the block is undone (R102) -/

/-- A permutation undoes another when it takes each bit from where the other put it. -/
theorem perm_perm_cancel {n : Nat} (s t : Vector Nat n)
    (h : ∀ i : Fin n, ∃ hi : tab s i - 1 < n, tab t ⟨tab s i - 1, hi⟩ = i.val + 1) (v : BitVec n) :
    perm s (perm t v) = v := by
  apply BitVec.eq_of_getMsbD_eq
  intro i hi
  obtain ⟨hsrc, hback⟩ := h ⟨i, hi⟩
  simp [hi, bitAt, hsrc, hback]

/-- The default tables meet the premise of the inverse (R102). -/
theorem finalInvertsInitial_tables : FinalInvertsInitial tables :=
  fun b => ⟨perm_perm_cancel _ _ (by decide +kernel) b, perm_perm_cancel _ _ (by decide +kernel) b⟩

/-! ## The rounds in reverse undo the rounds, through the final swap (R157) -/

/-- The two halves exchanged, as the final swap leaves them (R155). -/
def Halves.swap (h : Halves) : Halves := ⟨h.right, h.left⟩

theorem foldl_feistelRound_reverse_swap (T : Tables) (keys : RoundKeys) (rounds : List (Fin 16)) (h : Halves) :
    rounds.reverse.foldl (fun h r => feistelRound T h (tab keys r))
      (rounds.foldl (fun h r => feistelRound T h (tab keys r)) h).swap = h.swap := by
  induction rounds generalizing h with
  | nil => rfl
  | cons r rounds ih =>
    simp only [List.reverse_cons, List.foldl_append, List.foldl_cons, List.foldl_nil, ih]
    exact feistelRound_undo T h (tab keys r)

theorem initialHalves_finalBlock {T : Tables} (hT : FinalInvertsInitial T) (h : Halves) :
    initialHalves T (finalBlock T h) = h.swap := by
  have hip : perm T.ip (finalBlock T h) = h.right ++ h.left := (hT _).2
  have hright : (h.right ++ h.left).extractLsb' 32 32 = h.right :=
    (BitVec.extractLsb'_append_eq_of_le (by decide)).trans BitVec.extractLsb'_eq_self
  have hleft : (h.right ++ h.left).extractLsb' 0 32 = h.left :=
    (BitVec.extractLsb'_append_eq_of_add_le (by decide)).trans BitVec.extractLsb'_eq_self
  simp only [initialHalves, hip, hright, hleft, Halves.swap]

theorem finalBlock_swap_initialHalves {T : Tables} (hT : FinalInvertsInitial T) (b : Block) :
    finalBlock T (initialHalves T b).swap = b := by
  have hjoin : (initialHalves T b).left ++ (initialHalves T b).right = perm T.ip b :=
    (BitVec.extractLsb'_append_extractLsb'_eq_extractLsb' (by decide)).trans BitVec.extractLsb'_eq_self
  exact (congrArg (perm T.fp) hjoin).trans (hT b).1

/-- Two directions that read the subkeys in opposite orders undo each other, whatever the subkeys (R157). -/
theorem feistelCore_feistelCore_of_reverse {T : Tables} (hT : FinalInvertsInitial T) (keys : RoundKeys)
    {d d' : Direction} (hrev : roundOrder d' = (roundOrder d).reverse) (b : Block) :
    feistelCore T keys d' (feistelCore T keys d b) = b := by
  have hundo (h : Halves) : feistelRounds T keys d' (feistelRounds T keys d h).swap = h.swap := by
    unfold feistelRounds
    rw [hrev]
    exact foldl_feistelRound_reverse_swap T keys (roundOrder d) h
  rw [feistelCore_eq, feistelCore_eq, initialHalves_finalBlock hT, hundo, finalBlock_swap_initialHalves hT]

theorem decryptUnder_encryptUnder (k b : Block) : decryptUnder k (encryptUnder k b) = b :=
  feistelCore_feistelCore_of_reverse finalInvertsInitial_tables (keySchedule tables k) rfl b

/-! ## The known answers (R160) -/

/-- The datapath run on each of the eleven rows. -/
theorem encryptUnder_knownAnswers : ∀ kpc ∈ knownAnswers, encryptUnder kpc.1 kpc.2.1 = kpc.2.2 := by
  simp only [knownAnswers, List.forall_mem_cons, List.not_mem_nil, false_implies, implies_true, and_true]
  refine ⟨?_, ?_, ?_, ?_, ?_, ?_, ?_, ?_, ?_, ?_, ?_⟩
  all_goals decide +kernel

/-- Settles O47: the ciphertexts are computed, and decryption gives back what was encrypted. -/
theorem knownAnswers : Obligations.KnownAnswers := by
  intro kpc hrow
  have henc := encryptUnder_knownAnswers kpc hrow
  exact ⟨henc, henc ▸ decryptUnder_encryptUnder kpc.1 kpc.2.1⟩

end Sys2Proof.Machine
end

section
/-! Proofs of the family of `44_weakkey.md`: the two classification commands (R170, R171). -/

namespace Sys2Proof.Machine

/-! ## The body of a classification, and the two commands under any key sets (R170, R171) -/

theorem boolByte_decide (p : Prop) [Decidable p] : boolByte (decide p) = if p then 0x01 else 0x00 := by
  simp [boolByte]

theorem classifyBody_of_length_ne (test : Block → Bool) {key : List Byte} (hlen : key.length ≠ 8) (s : State) :
    classifyBody test key s = { s with outbox := s.outbox ++ [[0x01, 0x00]] } :=
  if_pos hlen

theorem classifyBody_of_length_eq (test : Block → Bool) {key : List Byte} (hlen : key.length = 8) (s : State) :
    classifyBody test key s = { s with outbox := s.outbox ++ [[0x00, 0x01, boolByte (test (join8 key))]] } :=
  if_neg (not_not.2 hlen)

/-- Outside `Faulted` the lifecycle lets `ISWEAK` run. -/
theorem execWith_isweak (P : Params) (key : List Byte) {s : State} (hlife : s.life ≠ .faulted) :
    execWith P (.isweak key) s = .next (classifyBody (isWeakKey P.keySets) key s) :=
  gated_runs (admission_stateless hlife) _

/-- Outside `Faulted` the lifecycle lets `ISSEMIWEAK` run. -/
theorem execWith_issemiweak (P : Params) (key : List Byte) {s : State} (hlife : s.life ≠ .faulted) :
    execWith P (.issemiweak key) s = .next (classifyBody (isSemiWeakKey P.keySets) key s) :=
  gated_runs (admission_stateless hlife) _

theorem execWith_isweak_of_length_eq (P : Params) {key : List Byte} (hlen : key.length = 8) {s : State}
    (hlife : s.life ≠ .faulted) :
    execWith P (.isweak key) s = .next { s with
      outbox := s.outbox ++ [[0x00, 0x01, if join8 key ∈ P.keySets.weak then 0x01 else 0x00]] } := by
  rw [execWith_isweak P key hlife, classifyBody_of_length_eq _ hlen, isWeakKey, boolByte_decide]

theorem execWith_issemiweak_of_length_eq (P : Params) {key : List Byte} (hlen : key.length = 8) {s : State}
    (hlife : s.life ≠ .faulted) :
    execWith P (.issemiweak key) s = .next { s with
      outbox := s.outbox ++ [[0x00, 0x01, if join8 key ∈ P.keySets.semiWeak then 0x01 else 0x00]] } := by
  rw [execWith_issemiweak P key hlife, classifyBody_of_length_eq _ hlen, isSemiWeakKey, boolByte_decide]

/-! ## The default sets (R172, R173) -/

theorem mem_keySets_weak (k : Block) :
    k ∈ keySets.weak ↔ k = 0x0101010101010101 ∨ k = 0xFEFEFEFEFEFEFEFE ∨
      k = 0x1F1F1F1F0E0E0E0E ∨ k = 0xE0E0E0E0F1F1F1F1 := by
  simp only [keySets, weakSet, List.mem_cons, List.not_mem_nil, or_false]

/-- The set holds the first members of the pairs and then the second ones; read pair by pair it is the same set. -/
theorem keySets_semiWeak_perm : keySets.semiWeak.Perm (semiWeakPairs.flatMap fun ab => [ab.1, ab.2]) := by decide

/-! ## The obligations of the family -/

/-- Settles O15: the command runs outside `Faulted`, and the default set holds the four constants. -/
theorem isWeakOutcome : Obligations.IsWeakOutcome := by
  intro s key hlife
  rw [← execWith_params]
  refine ⟨fun hlen => ?_, fun hlen => ?_, rfl⟩
  · rw [execWith_isweak _ _ hlife, classifyBody_of_length_ne _ hlen]
  · simp only [execWith_isweak_of_length_eq params hlen hlife, params_keySets, mem_keySets_weak]

/-- Settles O16: the command runs outside `Faulted`, and the default set holds the twelve constants of the six pairs. -/
theorem isSemiWeakOutcome : Obligations.IsSemiWeakOutcome := by
  intro s key hlife
  rw [← execWith_params]
  refine ⟨fun hlen => ?_, fun hlen => ?_, rfl⟩
  · rw [execWith_issemiweak _ _ hlife, classifyBody_of_length_ne _ hlen]
  · simp only [execWith_issemiweak_of_length_eq params hlen hlife, params_keySets, keySets_semiWeak_perm.mem_iff]
    rfl

end Sys2Proof.Machine
end

section
/-! Proofs of the family of `45_cbc.md`: the lifecycle table and the non-final transform (R182 to R184, R190). -/

namespace Sys2Proof.Machine

/-! ## Each command by its column of the lifecycle table (R190) -/

/-- The column of the lifecycle table that a command stands in (R190). -/
def commandKind : Instr → CommandKind
  | .construct _ _ _ => .construct
  | .xform _ => .transform
  | .xfinal _ => .transform
  | .dispose => .dispose
  | .isweak _ => .stateless
  | .issemiweak _ => .stateless
  | .config _ _ => .stateless

/-- What a command does to the engine where the lifecycle table lets it run (R170, R171, R181, R182, R185, R186, R195). -/
def commandBody (P : Params) : Instr → State → State
  | .construct dir key iv => constructBody P dir key iv
  | .xform data => xformBody P data
  | .xfinal data => xfinalBody P data
  | .dispose => disposeBody
  | .isweak key => classifyBody (isWeakKey P.keySets) key
  | .issemiweak key => classifyBody (isSemiWeakKey P.keySets) key
  | .config mode pad => configBody mode pad

/-- The commands of the lifecycle table: every one but an `XFINAL` of more than 8 bytes (R80 (c)). -/
def InLifecycleTable : Instr → Prop
  | .xfinal data => data.length ≤ 8
  | _ => True

/-- A command of the table is its body behind the lifecycle gate. In `Faulted` so is a long `XFINAL`: its `BadFrame` is
raised in the other states only (R222). -/
theorem execWith_eq_gated (P : Params) {i : Instr} {s : State} (h : InLifecycleTable i ∨ s.life = .faulted) :
    execWith P i s = gated (commandKind i) (commandBody P i) s := by
  cases i with
  | xfinal data =>
    refine if_neg fun ⟨hlong, hlife⟩ => ?_
    rcases h with hshort | hfaulted
    · exact absurd hlong (Nat.not_lt.2 hshort)
    · exact hlife hfaulted
  | construct dir key iv => rfl
  | xform data => rfl
  | dispose => rfl
  | isweak key => rfl
  | issemiweak key => rfl
  | config mode pad => rfl

theorem execWith_of_runs (P : Params) {i : Instr} {s : State} (htab : InLifecycleTable i)
    (hadm : admission s.life (commandKind i) = .runs) : execWith P i s = .next (commandBody P i s) :=
  (execWith_eq_gated P (.inl htab)).trans (gated_runs hadm _)

theorem execWith_of_faults (P : Params) {i : Instr} {s : State} {l : Life} {r : FaultReason}
    (htab : InLifecycleTable i) (hlife : s.life = l) (hadm : admission l (commandKind i) = .faults r) :
    execWith P i s = .next { s with life := .faulted, faultReason := some r } :=
  (execWith_eq_gated P (.inl htab)).trans (gated_faults (hlife ▸ hadm) _)

/-- In `Faulted` no command has a step, a long `XFINAL` included (R221). -/
theorem execWith_of_faulted (P : Params) (i : Instr) {s : State} (hlife : s.life = .faulted) :
    execWith P i s = .fault .noStepWhenFaulted :=
  (execWith_eq_gated P (.inr hlife)).trans (gated_noStep hlife _)

/-! ## What the bodies do to `LIFE` -/

/-- Of the commands, only `CONSTRUCT` and `DISPOSE` write `LIFE` when they run. -/
theorem commandBody_life (P : Params) {i : Instr} (s : State)
    (h : commandKind i = .transform ∨ commandKind i = .stateless) : (commandBody P i s).life = s.life := by
  cases i with
  | construct dir key iv => simp [commandKind] at h
  | xform data => rcases xformBody_cases P data s with ⟨st, -, hb⟩ | ⟨c, out, -, hb⟩ <;> simp [commandBody, hb]
  | xfinal data => rcases xfinalBody_cases P data s with ⟨st, -, hb⟩ | ⟨c, out, -, hb⟩ <;> simp [commandBody, hb]
  | dispose => simp [commandKind] at h
  | isweak key => rcases classifyBody_cases (isWeakKey P.keySets) key s with hb | hb <;> simp [commandBody, hb]
  | issemiweak key => rcases classifyBody_cases (isSemiWeakKey P.keySets) key s with hb | hb <;> simp [commandBody, hb]
  | config mode pad =>
    obtain ⟨st, -, hb⟩ := configBody_cases mode pad s
    simp [commandBody, hb]

/-- A transform leaves the engine `Ready` (R190). -/
theorem execWith_transform_ready (P : Params) {i : Instr} {s : State} (htab : InLifecycleTable i)
    (hkind : commandKind i = .transform) (hlife : s.life = .ready) :
    ∃ t, execWith P i s = .next t ∧ t.life = .ready :=
  ⟨_, execWith_of_runs P htab (hkind ▸ admission_transform hlife),
    (commandBody_life P s (.inl hkind)).trans hlife⟩

/-- A stateless command runs outside `Faulted` and keeps `LIFE` (R190). -/
theorem execWith_stateless_life (P : Params) {i : Instr} {s : State} (htab : InLifecycleTable i)
    (hkind : commandKind i = .stateless) (hlife : s.life ≠ .faulted) :
    ∃ t, execWith P i s = .next t ∧ t.life = s.life :=
  ⟨_, execWith_of_runs P htab (hkind ▸ admission_stateless hlife), commandBody_life P s (.inr hkind)⟩

/-- `CONSTRUCT` in `Empty` makes the engine `Ready`, or answers an error and stays in `Empty` (R181, R190). -/
theorem execWith_construct_empty (P : Params) (dir : Direction) (key iv : List Byte) {s : State}
    (hlife : s.life = .empty) :
    ∃ t, execWith P (.construct dir key iv) s = .next t ∧
      ((t.life = .ready ∧ t.outbox = s.outbox ++ [[0x00, 0x00]]) ∨
       (t.life = .empty ∧ ∃ e, e ≠ Status.ok ∧ t.outbox = s.outbox ++ [[statusByte e, 0x00]])) := by
  refine ⟨_, execWith_of_runs P (i := .construct dir key iv) trivial (admission_construct hlife), ?_⟩
  rcases constructBody_cases P dir key iv s with ⟨e, he, -, hb⟩ | hb | ⟨-, hb⟩ <;> rw [commandBody, hb]
  · exact .inr ⟨hlife, e, he, rfl⟩
  · exact .inr ⟨hlife, .invalidIVSize, by simp, rfl⟩
  · exact .inl ⟨rfl, rfl⟩

/-- However commands are run, a step out of `Faulted` is a reset (R190, R240). -/
theorem stepBy_faulted_or_reset {run : Runner} {s t : State} (hlife : s.life = .faulted)
    (hstep : stepBy run s = .next t) : t.life = .faulted ∨ ∃ rest, s.inbox = .reset :: rest := by
  rcases stepBy_next hstep with ⟨-, rfl⟩ | ⟨rest, hin, -⟩ | ⟨bytes, rest, -, -, rfl⟩ |
    ⟨bytes, rest, e, -, hne, -⟩ | ⟨bytes, rest, i, -, hne, -⟩
  · exact .inl hlife
  · exact .inr ⟨rest, hin⟩
  · exact .inl hlife
  · exact absurd hlife hne
  · exact absurd hlife hne

/-! ## `XFORM` in `Ready` (R182 to R184) -/

theorem execWith_xform_ready (P : Params) (data : List Byte) {s : State} (hlife : s.life = .ready) :
    execWith P (.xform data) s = .next (xformBody P data s) :=
  execWith_of_runs P (i := .xform data) trivial (admission_transform hlife)

theorem xformBody_of_length_zero (P : Params) {data : List Byte} (hlen : data.length = 0) (s : State) :
    xformBody P data s = { s with outbox := s.outbox ++ [[0x00, 0x00]] } :=
  if_pos hlen

theorem xformBody_of_bad_length (P : Params) {data : List Byte} (hzero : data.length ≠ 0) (hother : data.length ≠ 8)
    (s : State) : xformBody P data s = { s with outbox := s.outbox ++ [[0x05, 0x00]] } :=
  (if_neg hzero).trans (if_pos hother)

theorem xformBody_of_length_eight (P : Params) {data : List Byte} (hlen : data.length = 8) (s : State) :
    xformBody P data s = answerBlock P (join8 data) s := by
  simp [xformBody, hlen]

/-! ## The obligations of the family -/

/-- Settles O9: row by row, the cell of each command's column is what its gate does. -/
theorem lifecycleTable : Obligations.LifecycleTable := by
  unfold Obligations.LifecycleTable
  simp only [← execWith_params]
  refine ⟨fun s hlife => ?empty, fun s hlife => ?ready, fun s hlife => ?disposed, fun s hlife => ?stateless,
    fun s hlife => ?faulted⟩
  case empty =>
    exact ⟨fun dir key iv => execWith_construct_empty params dir key iv hlife,
      fun data => execWith_of_faults params trivial hlife rfl,
      fun data hlen => execWith_of_faults params hlen hlife rfl,
      execWith_of_faults params trivial hlife rfl⟩
  case ready =>
    exact ⟨fun dir key iv => execWith_of_faults params trivial hlife rfl,
      fun data => execWith_transform_ready params trivial rfl hlife,
      fun data hlen => execWith_transform_ready params hlen rfl hlife,
      _, execWith_of_runs params trivial (admission_dispose hlife), rfl⟩
  case disposed =>
    exact ⟨fun dir key iv => execWith_of_faults params trivial hlife rfl,
      fun data => execWith_of_faults params trivial hlife rfl,
      fun data hlen => execWith_of_faults params hlen hlife rfl,
      execWith_of_faults params trivial hlife rfl⟩
  case stateless =>
    exact ⟨fun key => execWith_stateless_life params trivial rfl hlife,
      fun key => execWith_stateless_life params trivial rfl hlife,
      fun mode pad => execWith_stateless_life params trivial rfl hlife⟩
  case faulted =>
    exact ⟨fun i => execWith_of_faulted params i hlife, fun t hstep => stepBy_faulted_or_reset hlife hstep⟩

/-- Settles O11: the three lengths of `XFORM`'s data, and for a whole block the two directions. -/
theorem xformOutcome : Obligations.XformOutcome := by
  intro s data hlife
  rw [← execWith_params, execWith_xform_ready params data hlife]
  refine ⟨fun hzero => ?_, fun hzero hother => ?_, fun hlen hdir => ?_, fun hlen hdir => ?_⟩
  · rw [xformBody_of_length_zero params hzero]
  · rw [xformBody_of_bad_length params hzero hother]
  · rw [xformBody_of_length_eight params hlen, answerBlock_encrypt params _ hdir, params_tables]
  · rw [xformBody_of_length_eight params hlen, answerBlock_decrypt params _ hdir, params_tables]

end Sys2Proof.Machine
end

section
/-! Proofs of the family of `60_exceptions.md`: the two errors of `CONFIG` (R195, R217, R218). -/

namespace Sys2Proof.Machine

/-- `CONFIG` runs in every lifecycle state but `Faulted`, whatever the parameters (R190). -/
theorem execWith_config (P : Params) (mode : CipherMode) (pad : Padding) {s : State} (hlife : s.life ≠ .faulted) :
    execWith P (.config mode pad) s = .next (configBody mode pad s) :=
  execWith_of_runs P (i := .config mode pad) trivial (admission_stateless hlife)

/-- The mode is tested first, so a wrong one is reported whatever the padding (R218, decision D5). -/
theorem configBody_of_mode_ne {mode : CipherMode} (hmode : mode ≠ .cbc) (pad : Padding) (s : State) :
    configBody mode pad s = { s with outbox := s.outbox ++ [[0x08, 0x00]] } :=
  if_pos hmode

/-- Under CBC a wrong padding is reported (R217). -/
theorem configBody_cbc_of_padding_ne {pad : Padding} (hpad : pad ≠ .zeroFill) (s : State) :
    configBody .cbc pad s = { s with outbox := s.outbox ++ [[0x07, 0x00]] } :=
  if_pos hpad

theorem configBody_cbc_zeroFill (s : State) :
    configBody .cbc .zeroFill s = { s with outbox := s.outbox ++ [[0x00, 0x00]] } := rfl

/-- Settles O17: outside `Faulted` the command is its two tests, the mode before the padding. -/
theorem configOutcome : Obligations.ConfigOutcome := by
  intro s mode pad hlife
  rw [← execWith_params, execWith_config params mode pad hlife]
  refine ⟨fun hmode => ?_, fun hmode hpad => ?_, fun hmode hpad => ?_⟩
  · rw [configBody_of_mode_ne hmode]
  · rw [hmode, configBody_cbc_of_padding_ne hpad]
  · rw [hmode, hpad, configBody_cbc_zeroFill]

end Sys2Proof.Machine
end

section
/-! Proofs about the tables, the key schedule and the datapath: structure, inverses, complements and the classified keys
(R54, R102, R117, R143, R145, R146, R154, R157 to R159, KA15). -/

namespace Sys2Proof.Machine
open Sys2Proof.Safety

/-! ## The tables (R102, R117) -/

/-- Settles O32: each fact is a finite check of one table. -/
theorem tablesHaveTheirStructure : Obligations.TablesHaveTheirStructure where
  ipPermutation := by decide +kernel
  fpPermutation := by decide +kernel
  pPermutation := by decide +kernel
  fpInvertsIp := by decide +kernel
  epRange := by unfold EntriesIn; decide +kernel
  epCovers := by decide +kernel
  pc1Selects := by decide +kernel
  pc2Distinct := by decide +kernel
  pc2Range := by unfold EntriesIn; decide +kernel
  pc2Omits := by decide +kernel
  sboxRows := by decide +kernel
  rotSum := by decide +kernel

/-- Settles O34: `FP` and `IP` cancel entry by entry. -/
theorem finalPermutationInvertsInitial : Obligations.FinalPermutationInvertsInitial := finalInvertsInitial_tables

/-! ## Bytes of a block (R54) -/

theorem join8_split8 (v : Block) : join8 (split8 v) = v := join_split 8 v

theorem split8_join8 {b : List Byte} (h : b.length = 8) : split8 (join8 b) = b := split_join h

theorem split8_eq (v : Block) : split8 v = (List.range 8).map fun i => v.extractLsb' (8 * (7 - i)) 8 := rfl

theorem split8_getD (v : Block) {i : Nat} (hi : i < 8) : (split8 v).getD i 0 = v.extractLsb' (8 * (7 - i)) 8 := by
  simp [split8_eq, List.getD_eq_getElem?_getD, hi]

/-- Bit `{8 i + j}` of a block is bit `{j}` of byte `i` of its split. -/
theorem bitAt_split8_getD (v : Block) {i j : Nat} (hi : i < 8) (hj : 1 ≤ j) (hj8 : j ≤ 8) :
    bitAt v (8 * i + j) = bitAt ((split8 v).getD i 0) j := by
  have hpos : 64 - (8 * i + j) = 8 * (7 - i) + (8 - j) := by omega
  have hin : 8 - j < 8 := by omega
  rw [split8_getD v hi, bitAt_eq_getLsbD _ hj hj8, bitAt_eq_getLsbD _ (by omega) (by omega), hpos,
    BitVec.getLsbD_extractLsb']
  simp [hin]

/-- A slice of a slice is a slice. -/
theorem extractLsb'_extractLsb'_of_add_le {w start len a n : Nat} (v : BitVec w) (h : a + n ≤ len) :
    (v.extractLsb' start len).extractLsb' a n = v.extractLsb' (start + a) n := by
  apply BitVec.eq_of_getLsbD_eq
  intro i hi
  have hin : a + i < len := by omega
  simp [hi, hin, Nat.add_assoc]

/-- The first four bytes of a split are the split of the upper half. -/
theorem split8_take_four (v : Block) : (split8 v).take 4 = split 4 (v.extractLsb' 32 32) := by
  simp [split8_eq, split, List.range_succ, extractLsb'_extractLsb'_of_add_le v]

/-- The last four bytes of a split are the split of the lower half. -/
theorem split8_drop_four (v : Block) : (split8 v).drop 4 = split 4 (v.extractLsb' 0 32) := by
  simp [split8_eq, split, List.range_succ, extractLsb'_extractLsb'_of_add_le v]

/-- Settles O36: the joined block splits into its bytes, and each half of a split is the split of a half. -/
theorem bitsOfAJoinedBlock : Obligations.BitsOfAJoinedBlock := by
  refine ⟨fun b i j hb hi hj hj8 => ?_, fun block => ⟨?_, ?_⟩⟩
  · rw [bitAt_split8_getD _ hi hj hj8, split8_join8 hb]
  · rw [split8_take_four, join_split]
    rfl
  · rw [split8_drop_four, join_split]
    rfl

/-! ## Inverses (R157) -/

/-- Settles O42: each direction reads the subkeys in the reverse order of the other. -/
theorem feistelCoreInverse : Obligations.FeistelCoreInverse := fun keys b =>
  ⟨feistelCore_feistelCore_of_reverse finalInvertsInitial_tables keys rfl b,
    feistelCore_feistelCore_of_reverse finalInvertsInitial_tables keys (List.reverse_reverse _).symm b⟩

/-! ## The array of subkeys read backwards (R143, R154) -/

theorem tab_reverse (keys : RoundKeys) (r : Fin 16) : tab keys.reverse r = tab keys r.rev := by
  simp only [tab, Fin.getElem_fin, Vector.getElem_reverse, Fin.val_rev]
  congr 1
  omega

theorem eq_reverse_of_tab {a b : RoundKeys} (h : ∀ r, tab a r = tab b r.rev) : a = b.reverse := by
  apply Vector.ext
  intro i hi
  exact (h ⟨i, hi⟩).trans (tab_reverse b ⟨i, hi⟩).symm

theorem feistelRounds_decrypt (T : Tables) (keys : RoundKeys) (h : Halves) :
    feistelRounds T keys .decrypt h = feistelRounds T keys.reverse .encrypt h := by
  simp only [feistelRounds, roundOrder, List.finRange_reverse, List.foldl_map, tab_reverse]

theorem feistelCore_decrypt (T : Tables) (keys : RoundKeys) (b : Block) :
    feistelCore T keys .decrypt b = feistelCore T keys.reverse .encrypt b := by
  rw [feistelCore_eq, feistelCore_eq, feistelRounds_decrypt]

/-- Settles O43: round `r` to decrypt reads what round `r` to encrypt reads in the reversed array. -/
theorem decryptionReadsTheSubkeysBackwards : Obligations.DecryptionReadsTheSubkeysBackwards :=
  feistelCore_decrypt tables

/-! ## The classified keys (R146, R158, R159)

The quantifiers run over short lists, so each fact is checked key by key (`List.Forall`). -/

theorem keyHalvesStart_weak : ∀ k ∈ weakSet,
    ((keyHalvesStart tables k).c = 0x0000000 ∨ (keyHalvesStart tables k).c = 0xFFFFFFF) ∧
    ((keyHalvesStart tables k).d = 0x0000000 ∨ (keyHalvesStart tables k).d = 0xFFFFFFF) :=
  List.forall_iff_forall_mem.1 (by decide +kernel)

theorem tab_keySchedule_weak : ∀ k ∈ weakSet, ∀ r : Fin 16,
    tab (keySchedule tables k) r = tab (keySchedule tables k) 0 :=
  List.forall_iff_forall_mem.1 (by decide +kernel)

theorem tab_keySchedule_semiWeak : ∀ ab ∈ semiWeakPairs, ∀ r : Fin 16,
    tab (keySchedule tables ab.1) r = tab (keySchedule tables ab.2) r.rev :=
  List.forall_iff_forall_mem.1 (by decide +kernel)

theorem keySchedule_semiWeak_two_subkeys : ∀ ab ∈ semiWeakPairs, ∀ k ∈ [ab.1, ab.2],
    tab (keySchedule tables k) 0 ≠ tab (keySchedule tables k) 1 ∧
      ∀ r : Fin 16, tab (keySchedule tables k) r = tab (keySchedule tables k) 0 ∨
        tab (keySchedule tables k) r = tab (keySchedule tables k) 1 := by
  simp only [List.forall_mem_cons, List.not_mem_nil, false_implies, implies_true, and_true]
  exact List.forall_iff_forall_mem.1 (by decide +kernel)

/-- Settles O41: the halves and the schedules of the sixteen keys are computed. -/
theorem schedulesOfClassifiedKeys : Obligations.SchedulesOfClassifiedKeys :=
  ⟨fun k hk => ⟨(keyHalvesStart_weak k hk).1, (keyHalvesStart_weak k hk).2, tab_keySchedule_weak k hk⟩,
    fun ab hab => ⟨tab_keySchedule_semiWeak ab hab, keySchedule_semiWeak_two_subkeys ab hab⟩⟩

/-- A key whose schedule is another's read backwards encrypts as the other decrypts. -/
theorem encryptUnder_eq_decryptUnder {a b : Block}
    (h : ∀ r : Fin 16, tab (keySchedule tables a) r = tab (keySchedule tables b) r.rev) (v : Block) :
    encryptUnder a v = decryptUnder b v := by
  rw [encryptUnder, decryptUnder, feistelCore_decrypt, eq_reverse_of_tab h]

/-- Settles O44: the schedule read backwards is the schedule, so decryption is encryption, which it undoes. -/
theorem weakKeysAreSelfInverse : Obligations.WeakKeysAreSelfInverse := by
  intro k hk b
  have hself : ∀ v, encryptUnder k v = decryptUnder k v := encryptUnder_eq_decryptUnder fun r =>
    (tab_keySchedule_weak k hk r).trans (tab_keySchedule_weak k hk r.rev).symm
  exact ⟨(hself _).trans (decryptUnder_encryptUnder k b), hself b⟩

/-- Settles O45: each schedule of a pair is the other's read backwards. -/
theorem semiWeakKeysPair : Obligations.SemiWeakKeysPair := by
  intro ab hab b
  have hrev := tab_keySchedule_semiWeak ab hab
  exact ⟨encryptUnder_eq_decryptUnder hrev b,
    encryptUnder_eq_decryptUnder (fun r => by rw [hrev r.rev, Fin.rev_rev]) b⟩

/-! ## Parity bits (R145) -/

theorem keyHalvesStart_congr_parity {a b : Block} (h : ∀ p, 1 ≤ p → p ≤ 64 → p % 8 ≠ 0 → bitAt a p = bitAt b p) :
    keyHalvesStart tables a = keyHalvesStart tables b := by
  have hl : ∀ i, 1 ≤ tab tables.pc1l i ∧ tab tables.pc1l i ≤ 64 ∧ tab tables.pc1l i % 8 ≠ 0 := by decide
  have hr : ∀ i, 1 ≤ tab tables.pc1r i ∧ tab tables.pc1r i ≤ 64 ∧ tab tables.pc1r i % 8 ≠ 0 := by decide
  simp only [keyHalvesStart, KeyHalves.mk.injEq]
  refine ⟨perm_congr _ fun i => ?_, perm_congr _ fun i => ?_⟩
  · obtain ⟨hlow, hhigh, hparity⟩ := hl i
    exact h _ hlow hhigh hparity
  · obtain ⟨hlow, hhigh, hparity⟩ := hr i
    exact h _ hlow hhigh hparity

/-- The schedule reads the key through the halves of step 1 only. -/
theorem keySchedule_congr {T : Tables} {a b : Block} (h : keyHalvesStart T a = keyHalvesStart T b) :
    keySchedule T a = keySchedule T b := by
  simp only [keySchedule, keyHalvesAfter, h]

theorem keySchedule_zero : ∀ r, tab (keySchedule tables 0x0000000000000000) r = 0 := by decide +kernel

theorem keySchedule_parityOnly : ∀ r, tab (keySchedule tables 0x0101010101010101) r = 0 := by decide +kernel

/-- Settles O40: step 1 selects no parity bit, and the schedule reads the key in step 1 only. -/
theorem parityBitsAreIgnored : Obligations.ParityBitsAreIgnored := by
  refine ⟨fun a b h => ?_, fun r => ⟨keySchedule_zero r, keySchedule_parityOnly r⟩⟩
  have hstart := keyHalvesStart_congr_parity h
  have hsched := keySchedule_congr hstart
  exact ⟨hstart, hsched, fun v => by simp only [encryptUnder, decryptUnder, hsched, and_self]⟩

/-! ## Complements (KA15) -/

/-- A selection of bits commutes with the complement, as it is linear and each output bit copies some source bit. -/
theorem perm_not {n w : Nat} {t : Vector Nat n} (hones : perm t (BitVec.allOnes w) = BitVec.allOnes n) (v : BitVec w) :
    perm t (~~~v) = ~~~(perm t v) := by
  rw [← BitVec.xor_allOnes, ← BitVec.xor_allOnes, perm_xor, hones]

theorem rotl28_not (v : KeyHalf) (s : Shift) : rotl28 (~~~v) s = ~~~(rotl28 v s) := by
  apply BitVec.eq_of_getMsbD_eq
  intro i hi
  have hsrc : (i + shiftAmount s) % 28 < 28 := Nat.mod_lt _ (by decide)
  simp only [rotl28_getMsbD _ s hi, BitVec.getMsbD_not, hi, hsrc, decide_true, Bool.true_and]

/-- Both halves of the key schedule complemented. -/
def KeyHalves.complement (h : KeyHalves) : KeyHalves := ⟨~~~h.c, ~~~h.d⟩

theorem keyHalvesStart_not (k : Block) : keyHalvesStart tables (~~~k) = (keyHalvesStart tables k).complement := by
  simp only [keyHalvesStart, KeyHalves.complement, perm_not (t := tables.pc1l) (w := 64) (by decide +kernel),
    perm_not (t := tables.pc1r) (w := 64) (by decide +kernel)]

theorem foldl_rotateHalves_complement (T : Tables) (rounds : List (Fin 16)) (h : KeyHalves) :
    rounds.foldl (rotateHalves T) h.complement = (rounds.foldl (rotateHalves T) h).complement := by
  induction rounds generalizing h with
  | nil => rfl
  | cons r rounds ih =>
    have hstep : rotateHalves T h.complement r = (rotateHalves T h r).complement := by
      simp only [rotateHalves, KeyHalves.complement, rotl28_not]
    rw [List.foldl_cons, List.foldl_cons, hstep, ih]

theorem selectSubkey_complement (h : KeyHalves) : selectSubkey tables h.complement = ~~~(selectSubkey tables h) := by
  simp only [selectSubkey, KeyHalves.complement, ← BitVec.not_append,
    perm_not (t := tables.pc2) (w := 56) (by decide +kernel)]

theorem tab_keySchedule_not (k : Block) (r : Fin 16) :
    tab (keySchedule tables (~~~k)) r = ~~~(tab (keySchedule tables k) r) := by
  simp only [tab_keySchedule, keyHalvesAfter, keyHalvesStart_not, foldl_rotateHalves_complement,
    selectSubkey_complement]

/-- Both halves of the datapath complemented. -/
def Halves.complement (h : Halves) : Halves := ⟨~~~h.left, ~~~h.right⟩

/-- The two complements cancel where the subkey is added. -/
theorem roundFunction_not (right : Half) (k : Subkey) :
    roundFunction tables (~~~right) (~~~k) = roundFunction tables right k := by
  have hcancel (a b : Subkey) : ~~~a ^^^ ~~~b = a ^^^ b := by
    apply BitVec.eq_of_getLsbD_eq
    intro i hi
    simp [hi]
  rw [roundFunction, perm_not (t := tables.ep) (by decide +kernel), hcancel, roundFunction]

theorem feistelRound_complement (h : Halves) (k : Subkey) :
    feistelRound tables h.complement (~~~k) = (feistelRound tables h k).complement := by
  simp only [feistelRound, Halves.complement, roundFunction_not, BitVec.not_xor_left]

/-- Under complemented subkeys the rounds of complemented halves end in complemented halves. -/
theorem feistelRounds_complement {keys keys' : RoundKeys} (hkeys : ∀ r, tab keys' r = ~~~(tab keys r)) (dir : Direction)
    (h : Halves) : feistelRounds tables keys' dir h.complement = (feistelRounds tables keys dir h).complement := by
  unfold feistelRounds
  induction roundOrder dir generalizing h with
  | nil => rfl
  | cons r rounds ih => rw [List.foldl_cons, List.foldl_cons, hkeys, feistelRound_complement, ih]

theorem extractLsb'_not {w start len : Nat} {v : BitVec w} (h : start + len ≤ w) :
    (~~~v).extractLsb' start len = ~~~(v.extractLsb' start len) := by
  apply BitVec.eq_of_getLsbD_eq
  intro i hi
  have hin : start + i < w := by omega
  simp [hi, hin]

theorem initialHalves_not (b : Block) : initialHalves tables (~~~b) = (initialHalves tables b).complement := by
  simp only [initialHalves, Halves.complement, perm_not (t := tables.ip) (w := 64) (by decide +kernel)]
  rw [extractLsb'_not (by decide), extractLsb'_not (by decide)]

theorem finalBlock_complement (h : Halves) : finalBlock tables h.complement = ~~~(finalBlock tables h) := by
  simp only [finalBlock, Halves.complement, ← BitVec.not_append,
    perm_not (t := tables.fp) (w := 64) (by decide +kernel)]

/-- Settles O46: the complement passes through the schedule, the initial halves, every round and the final block. -/
theorem cipherCommutesWithComplement : Obligations.CipherCommutesWithComplement := by
  intro k b
  rw [encryptUnder, encryptUnder, feistelCore_eq, feistelCore_eq, initialHalves_not,
    feistelRounds_complement (tab_keySchedule_not k), finalBlock_complement]

end Sys2Proof.Machine
end

section
/-! Proofs about single commands: what each answers where the lifecycle lets it run, under any parameters (R170, R171,
R181 to R187, R211 to R216). -/

namespace Sys2Proof.Machine
open Sys2Proof.Safety

/-! ## `CONSTRUCT` (R181, R211 to R214) -/

theorem execWith_construct_of_empty (P : Params) (dir : Direction) (key iv : List Byte) {s : State}
    (hlife : s.life = .empty) :
    execWith P (.construct dir key iv) s = .next (constructBody P dir key iv s) :=
  execWith_of_runs P (i := .construct dir key iv) trivial (admission_construct hlife)

section
variable (P : Params) (dir : Direction) {key iv : List Byte} (s : State)

theorem constructBody_of_length_ne (hkey : key.length ≠ 8) :
    constructBody P dir key iv s = { s with outbox := s.outbox ++ [[0x01, 0x00]] } := by
  simp [constructBody, hkey, raiseError_eq, statusByte]

theorem constructBody_of_weak (hkey : key.length = 8) (hweak : join8 key ∈ P.keySets.weak) :
    constructBody P dir key iv s = { s with outbox := s.outbox ++ [[0x03, 0x00]] } := by
  simp [constructBody, isWeakKey, hkey, hweak, raiseError_eq, statusByte]

theorem constructBody_of_semiWeak (hkey : key.length = 8) (hweak : join8 key ∉ P.keySets.weak)
    (hsemi : join8 key ∈ P.keySets.semiWeak) :
    constructBody P dir key iv s = { s with outbox := s.outbox ++ [[0x04, 0x00]] } := by
  simp [constructBody, isWeakKey, isSemiWeakKey, hkey, hweak, hsemi, raiseError_eq, statusByte]

theorem constructBody_of_iv_length_ne (hkey : key.length = 8) (hweak : join8 key ∉ P.keySets.weak)
    (hsemi : join8 key ∉ P.keySets.semiWeak) (hiv : iv.length ≠ 8) :
    constructBody P dir key iv s =
      { s with keys := Vector.replicate 16 0, outbox := s.outbox ++ [[0x02, 0x00]] } := by
  simp [constructBody, isWeakKey, isSemiWeakKey, hkey, hweak, hsemi, hiv, raiseError_eq, statusByte, State.clearKeys,
    State.setKeys]

theorem constructBody_of_accepted (hkey : key.length = 8) (hweak : join8 key ∉ P.keySets.weak)
    (hsemi : join8 key ∉ P.keySets.semiWeak) (hiv : iv.length = 8) :
    constructBody P dir key iv s = { s with
      life := .ready, dir := dir, chain := join8 iv, keys := keySchedule P.tables (join8 key),
      outbox := s.outbox ++ [[0x00, 0x00]] } := by
  simp [constructBody, isWeakKey, isSemiWeakKey, hkey, hweak, hsemi, hiv, succeed_eq, State.setKeys, State.setChain,
    State.setDir, State.setLife]

end

/-- The two default sets are disjoint (R175). -/
theorem keySets_disjoint : ∀ k ∈ keySets.semiWeak, k ∉ keySets.weak := List.forall_iff_forall_mem.1 (by decide +kernel)

/-- Settles O10: the conditions of the five clauses select the branches of the body; in the other states the
lifecycle gate faults. -/
theorem constructFollowsItsSteps : Obligations.ConstructFollowsItsSteps := by
  intro s dir key iv
  simp only [← execWith_params]
  refine ⟨fun hlife => ?_, fun hlife => ⟨_, execWith_of_faults params trivial hlife rfl⟩,
    fun hlife => ⟨_, execWith_of_faults params trivial hlife rfl⟩⟩
  rw [execWith_construct_of_empty params dir key iv hlife]
  simp only [Host.Outcome.next.injEq]
  exact ⟨constructBody_of_length_ne params dir s, constructBody_of_weak params dir s,
    fun hkey hsemi => constructBody_of_semiWeak params dir s hkey (keySets_disjoint _ hsemi) hsemi,
    constructBody_of_iv_length_ne params dir s, constructBody_of_accepted params dir s⟩

/-! ## `XFORM` and `XFINAL` (R182 to R187) -/

theorem execWith_xfinal_ready (P : Params) {data : List Byte} (hlen : data.length ≤ 8) {s : State}
    (hlife : s.life = .ready) : execWith P (.xfinal data) s = .next (xfinalBody P data s) :=
  execWith_of_runs P (i := .xfinal data) hlen (admission_transform hlife)

/-- An `XFINAL` that no frame carries faults `BadFrame` (R80 (c)). -/
theorem execWith_xfinal_long (P : Params) {data : List Byte} (hlen : 9 ≤ data.length) {s : State}
    (hlife : s.life ≠ .faulted) : execWith P (.xfinal data) s = .next (raiseFault .badFrame s) :=
  if_pos ⟨hlen, hlife⟩

theorem xfinalBody_of_length_zero (P : Params) {data : List Byte} (hlen : data.length = 0) (s : State) :
    xfinalBody P data s = { s with outbox := s.outbox ++ [[0x00, 0x00]] } :=
  if_pos hlen

/-- To encrypt, a final call on data is one block, filled with zero bytes (R185, R187). -/
theorem xfinalBody_encrypt (P : Params) {data : List Byte} (hlen : data.length ≠ 0) {s : State}
    (hdir : s.dir = .encrypt) : xfinalBody P data s = answerBlock P (join8 (zeroPad data)) s := by
  simp [xfinalBody, hlen, hdir]

/-- To decrypt, a final call on a short block is an error (R185, R216). -/
theorem xfinalBody_decrypt_short (P : Params) {data : List Byte} (hzero : data.length ≠ 0) (hshort : data.length ≠ 8)
    {s : State} (hdir : s.dir = .decrypt) :
    xfinalBody P data s = { s with outbox := s.outbox ++ [[0x06, 0x00]] } := by
  simp [xfinalBody, hzero, hshort, hdir, raiseError_eq, statusByte]

/-- On a full block there is nothing to fill and nothing incomplete. -/
theorem xfinalBody_of_length_eight (P : Params) {data : List Byte} (hlen : data.length = 8) (s : State) :
    xfinalBody P data s = answerBlock P (join8 data) s := by
  cases hdir : s.dir with
  | encrypt => rw [xfinalBody_encrypt P (by omega) hdir, zeroPad_eight hlen]
  | decrypt => simp [xfinalBody, hlen, hdir]

theorem execWith_xfinal_eq_xform (P : Params) {data : List Byte} (hlen : data.length = 8) (s : State) :
    execWith P (.xfinal data) s = execWith P (.xform data) s := by
  have hbody : xfinalBody P data = xformBody P data := funext fun s => by
    rw [xfinalBody_of_length_eight P hlen, xformBody_of_length_eight P hlen]
  have htab : InLifecycleTable (.xfinal data) := hlen.le
  rw [execWith_eq_gated P (.inl htab), execWith_eq_gated P (i := .xform data) (.inl trivial)]
  exact congrArg (gated .transform · s) hbody

/-- Settles O12: the lengths 0, 1 to 7 and 8 in the two directions, and the lengths that no frame carries. -/
theorem xfinalOutcome : Obligations.XfinalOutcome := by
  intro s data hlife
  simp only [← execWith_params]
  refine ⟨fun hlen => ?_, fun hone hseven hdir => ?_, fun hlen hdir => ?_, fun hone height hdir => ?_, fun hlong => ?_⟩
  · rw [execWith_xfinal_ready params (by omega) hlife, xfinalBody_of_length_zero params hlen]
  · rw [execWith_xfinal_ready params (by omega) hlife, xfinalBody_decrypt_short params (by omega) (by omega) hdir]
  · rw [execWith_xfinal_ready params hlen.le hlife, xfinalBody_of_length_eight params hlen,
      answerBlock_decrypt params _ hdir, params_tables]
  · refine ⟨_, _, rfl, rfl, ?_⟩
    rw [execWith_xfinal_ready params height hlife, xfinalBody_encrypt params (by omega) hdir,
      answerBlock_encrypt params _ hdir]
    rfl
  · rw [execWith_xfinal_long params hlong (by simp [hlife]), raiseFault_eq]

/-- Settles O13: the two bodies are equal on a full block and stand in the same column of the lifecycle table. -/
theorem xfinalOfFullBlockIsXform : Obligations.XfinalOfFullBlockIsXform := by
  intro s data hlen
  simpa only [execWith_params] using execWith_xfinal_eq_xform params hlen s

/-- Settles O25: the chain and the output of the two directions of a block step. -/
theorem chainHoldsTheCiphertext : Obligations.ChainHoldsTheCiphertext := by
  intro s t data hlife hlen hexec
  obtain ⟨-, -, henc, hdec⟩ := xformOutcome s data hlife
  cases hdir : s.dir with
  | encrypt =>
    obtain rfl := Host.Outcome.next.inj (hexec.symm.trans (henc hlen hdir))
    exact ⟨_, rfl, split8_length _, fun _ => (join8_split8 _).symm, by simp⟩
  | decrypt =>
    obtain rfl := Host.Outcome.next.inj (hexec.symm.trans (hdec hlen hdir))
    exact ⟨_, rfl, split8_length _, by simp, fun _ => rfl⟩

/-- Settles O48: the filling is as long as what is missing to 8. -/
theorem zeroPadFillsToABlock : Obligations.ZeroPadFillsToABlock := by
  intro data _ hlen
  refine ⟨zeroPad_length hlen, by simp [zeroPad], fun x hx => ?_, zeroPad_eight⟩
  rw [zeroPad, List.drop_left] at hx
  exact List.eq_of_mem_replicate hx

/-! ## `DISPOSE` (R186) -/

/-- Settles O14: the body of `DISPOSE` ends in `Disposed`, whose row of the lifecycle table faults. -/
theorem disposeOutcome : Obligations.DisposeOutcome := by
  intro s hlife
  simp only [← execWith_params]
  have hrun : execWith params .dispose s = .next (disposeBody s) :=
    execWith_of_runs params trivial (admission_dispose hlife)
  exact ⟨_, hrun, rfl, fun r => by simp [disposeBody_eq, tab], rfl, rfl, rfl,
    execWith_of_faults params trivial rfl rfl, fun data => execWith_of_faults params trivial rfl rfl,
    fun data hlen => execWith_of_faults params hlen rfl rfl⟩

/-! ## Every command under any parameters (R10, R177) -/

/-- Settles O57: the equations of the bodies, which hold for all tables and sets. -/
theorem commandsUnderAnyParameters : Obligations.CommandsUnderAnyParameters := by
  intro P s
  refine ⟨fun key hlife hlen => ⟨?_, ?_⟩, fun dir key iv hlife hlen => ?_, fun data hlife hlen hdir => ?_,
    fun data hlife hlen hdir => ?_⟩
  · exact execWith_isweak_of_length_eq P hlen hlife
  · exact execWith_issemiweak_of_length_eq P hlen hlife
  · rw [execWith_construct_of_empty P dir key iv hlife]
    split_ifs with hweak hsemi hiv
    · rw [constructBody_of_weak P dir s hlen hweak]
    · rw [constructBody_of_semiWeak P dir s hlen hweak hsemi]
    · rw [constructBody_of_iv_length_ne P dir s hlen hweak hsemi hiv]
    · rw [constructBody_of_accepted P dir s hlen hweak hsemi (not_not.1 hiv)]
  · refine ⟨_, rfl, ?_, execWith_xfinal_eq_xform P hlen s⟩
    rw [execWith_xform_ready P data hlife, xformBody_of_length_eight P hlen, answerBlock_encrypt P _ hdir]
  · refine ⟨_, rfl, ?_, execWith_xfinal_eq_xform P hlen s⟩
    rw [execWith_xform_ready P data hlife, xformBody_of_length_eight P hlen, answerBlock_decrypt P _ hdir]

end Sys2Proof.Machine
end

section
/-! Proofs about what a command leaves unchanged: the frames of the commands, and the errors (R35, R58, R181, R185,
R186, R195, R219 to R221). -/

namespace Sys2Proof.Machine
open Sys2Proof.Safety

/-! ## The frame of each command -/

/-- A command that has a step ran its body or faulted, an `XFINAL` outside the lifecycle table included (R80 (c)). -/
theorem execWith_ran_or_faulted {P : Params} {i : Instr} {s t : State} (h : execWith P i s = .next t) :
    (InLifecycleTable i ∧ admission s.life (commandKind i) = .runs ∧ t = commandBody P i s) ∨
      ∃ r, t = { s with life := .faulted, faultReason := some r } := by
  by_cases htab : InLifecycleTable i
  · obtain ⟨-, ⟨hadm, rfl⟩ | ⟨r, -, rfl⟩⟩ := gated_next ((execWith_eq_gated P (.inl htab)).symm.trans h)
    · exact .inl ⟨htab, hadm, rfl⟩
    · exact .inr ⟨r, rfl⟩
  · cases i with
    | xfinal data =>
      have hlong := execWith_xfinal_long P (Nat.lt_of_not_le htab) (execWith_next h).1
      exact .inr ⟨.badFrame, Host.Outcome.next.inj (h.symm.trans hlong)⟩
    | _ => exact absurd trivial htab

/-- Settles O20: a construction faults, answers an error, or succeeds. -/
theorem frameOfConstruct : Obligations.FrameOfConstruct := by
  intro s t dir key iv h
  rw [← execWith_params] at h
  rcases execWith_ran_or_faulted h with ⟨-, -, rfl⟩ | hfault
  · rcases constructBody_cases params dir key iv s with ⟨e, he, -, hb⟩ | hb | ⟨-, hb⟩
    · exact .inr (.inl ⟨e, s.keys, he, fun _ => rfl, hb⟩)
    · exact .inr (.inl ⟨.invalidIVSize, _, by simp, fun hne => absurd rfl hne, hb⟩)
    · exact .inr (.inr ⟨_, _, hb⟩)
  · exact .inl hfault

/-- A transform that runs answers a status without data, or makes one block step. -/
theorem commandBody_transform (P : Params) {i : Instr} (hkind : commandKind i = .transform) (s : State) :
    (∃ st, st ≠ .invalidIVSize ∧ commandBody P i s = { s with outbox := s.outbox ++ [[statusByte st, 0x00]] }) ∨
    ∃ c out, out.length = 8 ∧
      commandBody P i s = { s with chain := c, outbox := s.outbox ++ [0x00 :: 0x08 :: out] } := by
  cases i with
  | xform data => exact xformBody_cases P data s
  | xfinal data => exact xfinalBody_cases P data s
  | _ => cases hkind

/-- Settles O21: a transform faults or does what a transform that runs can do. -/
theorem frameOfTransforms : Obligations.FrameOfTransforms := by
  intro s t data h
  simp only [← execWith_params] at h
  obtain ⟨i, hkind, hexec⟩ : ∃ i, commandKind i = .transform ∧ execWith params i s = .next t := by
    rcases h with h | h
    · exact ⟨_, rfl, h⟩
    · exact ⟨_, rfl, h⟩
  rcases execWith_ran_or_faulted hexec with ⟨-, -, rfl⟩ | hfault
  · rcases commandBody_transform params hkind s with ⟨st, -, hb⟩ | hb
    · exact .inr (.inl ⟨st, hb⟩)
    · exact .inr (.inr hb)
  · exact .inl hfault

/-- Settles O22: a disposal faults or runs its body. -/
theorem frameOfDispose : Obligations.FrameOfDispose := by
  intro s t h
  rw [← execWith_params] at h
  rcases execWith_ran_or_faulted h with ⟨-, -, rfl⟩ | hfault
  · exact .inr ⟨_, _, _, disposeBody_eq s⟩
  · exact .inl hfault

theorem classifyBody_answers (test : Block → Bool) (key : List Byte) :
    ∃ st data, st ≠ .invalidIVSize ∧ (st ≠ .ok → data = []) ∧
      ∀ s, classifyBody test key s = s.emit (responseFrame st data) := by
  unfold classifyBody
  split_ifs
  · exact ⟨.invalidKeySize, [], by simp, fun _ => rfl, fun _ => rfl⟩
  · exact ⟨.ok, [boolByte (test (join8 key))], by simp, by simp, fun _ => rfl⟩

/-- The body of a stateless command appends one response, the same in every state. -/
theorem commandBody_stateless (P : Params) {i : Instr} (hkind : commandKind i = .stateless) :
    ∃ st data, st ≠ .invalidIVSize ∧ (st ≠ .ok → data = []) ∧
      ∀ s, commandBody P i s = s.emit (responseFrame st data) := by
  cases i with
  | isweak key => exact classifyBody_answers _ key
  | issemiweak key => exact classifyBody_answers _ key
  | config mode pad =>
    simp only [commandBody, configBody]
    split_ifs
    · exact ⟨.unsupportedCipherMode, [], by simp, fun _ => rfl, fun _ => rfl⟩
    · exact ⟨.unsupportedPaddingMode, [], by simp, fun _ => rfl, fun _ => rfl⟩
    · exact ⟨.ok, [], by simp, by simp, fun _ => rfl⟩
  | _ => cases hkind

/-- A stateless command that has a step ran: its column of the lifecycle table has no fault (R190). -/
theorem execWith_stateless_next (P : Params) {i : Instr} {s t : State} (htab : InLifecycleTable i)
    (hkind : commandKind i = .stateless) (h : execWith P i s = .next t) :
    ∃ f, t = { s with outbox := s.outbox ++ [f] } := by
  have hrun := execWith_of_runs P htab (hkind ▸ admission_stateless (execWith_next h).1)
  obtain rfl := Host.Outcome.next.inj (h.symm.trans hrun)
  obtain ⟨st, data, -, -, hb⟩ := commandBody_stateless P hkind
  exact ⟨responseFrame st data, hb s⟩

/-- Settles O23: the three commands are stateless. -/
theorem frameOfStatelessCommands : Obligations.FrameOfStatelessCommands := by
  intro s t key mode pad h
  simp only [← execWith_params] at h
  rcases h with h | h | h
  · exact execWith_stateless_next params (i := .isweak key) trivial rfl h
  · exact execWith_stateless_next params (i := .issemiweak key) trivial rfl h
  · exact execWith_stateless_next params (i := .config mode pad) trivial rfl h

/-- Settles O24: what can happen to a `Ready` engine other than a disposal writes `LIFE`, `CHAIN` or a response. -/
theorem readyInstanceKeepsKeysAndDirection : Obligations.ReadyInstanceKeepsKeysAndDirection := by
  intro i s t hlife h hi
  obtain ⟨-, hnext⟩ := exec_next h
  cases hnext with
  | faulted r => exact ⟨rfl, rfl⟩
  | plain st hst => exact ⟨rfl, rfl⟩
  | boolean b => exact ⟨rfl, rfl⟩
  | block hl c out ho => exact ⟨rfl, rfl⟩
  | badIv hl => simp [hlife] at hl
  | constructed hl d c k hk => simp [hlife] at hl
  | disposed hd hl => exact absurd hd hi

/-! ## Errors (R219, R220) -/

/-- A block step answers `OK`. -/
theorem answerBlock_outbox (P : Params) (b : Block) (s : State) :
    ∃ data, (answerBlock P b s).outbox = s.outbox ++ [responseFrame .ok data] := by
  obtain ⟨c, out, hout, hb⟩ := answerBlock_cases P b s
  exact ⟨out, by simp [hb, responseFrame, hout]⟩

/-- Which of the three ways a command answers is fixed by the command and the direction: an error that writes nothing,
`InvalidIVSize`, which clears the subkeys, or `OK`. -/
theorem commandBody_answers (P : Params) (i : Instr) (d : Direction) :
    (∃ e, e ≠ .invalidIVSize ∧ ∀ s, s.dir = d → commandBody P i s = raiseError e s) ∨
    (∀ s, s.dir = d → commandBody P i s = raiseError .invalidIVSize s.clearKeys) ∨
    (∀ s, s.dir = d → ∃ data, (commandBody P i s).outbox = s.outbox ++ [responseFrame .ok data]) := by
  by_cases hstateless : commandKind i = .stateless
  · obtain ⟨st, data, hiv, herr, hb⟩ := commandBody_stateless P hstateless
    by_cases hok : st = .ok
    · exact .inr (.inr fun s _ => ⟨data, by rw [hb s, hok, State.emit_outbox]⟩)
    · exact .inl ⟨st, hiv, fun s _ => by rw [hb s, herr hok, raiseError]⟩
  cases i with
  | construct dir key iv =>
    simp only [commandBody, constructBody]
    split_ifs
    · exact .inl ⟨.invalidKeySize, by simp, fun _ _ => rfl⟩
    · exact .inl ⟨.weakKey, by simp, fun _ _ => rfl⟩
    · exact .inl ⟨.semiWeakKey, by simp, fun _ _ => rfl⟩
    · exact .inr (.inl fun _ _ => rfl)
    · exact .inr (.inr fun _ _ => ⟨[], rfl⟩)
  | xform data =>
    simp only [commandBody, xformBody]
    split_ifs
    · exact .inr (.inr fun _ _ => ⟨[], rfl⟩)
    · exact .inl ⟨.invalidBlockLength, by simp, fun _ _ => rfl⟩
    · exact .inr (.inr fun s _ => answerBlock_outbox P _ s)
  | xfinal data =>
    simp only [commandBody]
    by_cases hzero : data.length = 0
    · exact .inr (.inr fun s _ => ⟨[], by rw [xfinalBody_of_length_zero P hzero]; rfl⟩)
    by_cases hfull : data.length = 8
    · exact .inr (.inr fun s _ => by rw [xfinalBody_of_length_eight P hfull]; exact answerBlock_outbox P _ s)
    cases d with
    | encrypt => exact .inr (.inr fun s hs => by rw [xfinalBody_encrypt P hzero hs]; exact answerBlock_outbox P _ s)
    | decrypt =>
      exact .inl ⟨.incompleteFinalBlock, by simp, fun s hs => xfinalBody_decrypt_short P hzero hfull hs⟩
  | dispose => exact .inr (.inr fun _ _ => ⟨[], rfl⟩)
  | _ => exact absurd rfl hstateless

/-- A command that answered an error answers it in every state of the same direction, and wrote nothing, or with
`InvalidIVSize` cleared the subkeys. -/
theorem execWith_error {P : Params} {i : Instr} {s t : State} {e : Status} (he : e ≠ .ok)
    (h : execWith P i s = .next t) (hout : t.outbox = s.outbox ++ [[statusByte e, 0x00]]) :
    InLifecycleTable i ∧ admission s.life (commandKind i) = .runs ∧
      ((e ≠ .invalidIVSize ∧ t = raiseError e s ∧ ∀ u, u.dir = s.dir → commandBody P i u = raiseError e u) ∨
       (e = .invalidIVSize ∧ t = raiseError e s.clearKeys ∧
        ∀ u, u.dir = s.dir → commandBody P i u = raiseError e u.clearKeys)) := by
  have hsame {st : Status} {data : List Byte} (hans : t.outbox = s.outbox ++ [responseFrame st data]) : st = e := by
    rw [hout, ← responseFrame_nil] at hans
    exact (responseFrame_inj (List.singleton_inj.1 (List.append_cancel_left hans))).1.symm
  rcases execWith_ran_or_faulted h with ⟨htab, hadm, rfl⟩ | ⟨r, rfl⟩
  · refine ⟨htab, hadm, ?_⟩
    rcases commandBody_answers P i s.dir with ⟨e', hiv, hb⟩ | hb | hb
    · obtain rfl : e' = e := hsame (by rw [hb s rfl]; rfl)
      exact .inl ⟨hiv, hb s rfl, hb⟩
    · obtain rfl : .invalidIVSize = e := hsame (by rw [hb s rfl]; rfl)
      exact .inr ⟨rfl, hb s rfl, hb⟩
    · obtain ⟨data, hok⟩ := hb s rfl
      exact absurd (hsame hok).symm he
  · simp at hout

/-- Settles O18: an error is raised on the state as it was, or with the subkeys cleared. -/
theorem errorsKeepTheRegisters : Obligations.ErrorsKeepTheRegisters := by
  intro i s t e he h hout
  rw [← execWith_params] at h
  obtain ⟨-, -, ⟨hiv, rfl, -⟩ | ⟨hiv, rfl, -⟩⟩ := execWith_error he h hout
  · exact ⟨rfl, rfl, rfl, rfl, rfl, rfl, fun _ => rfl, fun h => absurd h hiv⟩
  · exact ⟨rfl, rfl, rfl, rfl, rfl, rfl, fun h => absurd hiv h, fun _ => rfl⟩

/-- Settles O19: the state left has the same `LIFE` and `DIR`, and subkeys once cleared stay as they are. -/
theorem retryGivesTheSameError : Obligations.RetryGivesTheSameError := by
  intro i s t e he h hout
  rw [← execWith_params] at h ⊢
  obtain ⟨htab, hadm, ⟨-, rfl, hb⟩ | ⟨-, rfl, hb⟩⟩ := execWith_error he h hout
  · rw [execWith_of_runs params (s := raiseError e s) htab hadm, hb (raiseError e s) rfl]
    rfl
  · rw [execWith_of_runs params (s := raiseError e s.clearKeys) htab hadm,
      hb (raiseError e s.clearKeys) rfl]
    rfl

end Sys2Proof.Machine
end

section
/-! Proofs about the whole machine: steps, reset, the invariant, two runs side by side, and several engines (R35 to R37,
R77, R221, R224, R228, R240, R241, R252). -/

namespace Sys2Proof.Machine
open Sys2Proof.Safety

/-! ## The step without a command (R240, R252) -/

theorem step_of_inbox_nil {s : State} (hin : s.inbox = []) : step s = .next s := by
  simp [step, stepBy, takeEvent_nil hin]

theorem step_of_reset {s : State} {rest : List HostEvent} (hin : s.inbox = .reset :: rest) :
    step s = .next (applyReset (s.setInbox rest)) := by
  simp [step, stepBy, takeEvent_cons hin, runEvent]

/-- In `Faulted` a frame is taken off and nothing else happens (R252). -/
theorem step_frame_of_faulted {s : State} {bytes : List Byte} {rest : List HostEvent} (hlife : s.life = .faulted)
    (hin : s.inbox = .frame bytes :: rest) : step s = .next (s.setInbox rest) := by
  simp [step, stepBy_frame exec hin, runFrame, hlife]

/-- Settles O6: the step with nothing sent, and the step of a reset. -/
theorem stepOnSilenceAndReset : Obligations.StepOnSilenceAndReset :=
  fun _ => ⟨step_of_inbox_nil, fun _ hin => ⟨_, step_of_reset hin, rfl, rfl, rfl, rfl⟩⟩

/-- Settles O7: no command runs, and the step on a frame takes it off. -/
theorem faultedIgnoresEveryFrame : Obligations.FaultedIgnoresEveryFrame :=
  fun s hlife => ⟨fun i => (execWith_params i s).symm.trans (execWith_of_faulted params i hlife),
    fun _ _ hin => step_frame_of_faulted hlife hin⟩

/-- Settles O8: the fields of the reset state and the hardwired parameters. -/
theorem resetIsEmpty : Obligations.ResetIsEmpty := ⟨rfl, rfl, rfl, rfl, rfl⟩

/-! ## The invariant (R35, R37, R77, R221) -/

/-- Settles O26: after reset no clause of the invariant has a case to answer for. -/
theorem invAtReset : Obligations.InvAtReset where
  readyKeys := by simp [ReadyKeysScheduled, State.reset]
  disposedKeys := by simp [DisposedKeysZero, State.reset]
  faultReason := by simp [FaultReasonMatches, State.reset]
  responses := by simp [ResponsesWellFormed, State.reset]

/-- The invariant says nothing of what the host will do. -/
theorem inv_setInbox {s : State} (h : Inv s) (events : List HostEvent) : Inv (s.setInbox events) :=
  ⟨h.readyKeys, h.disposedKeys, h.faultReason, h.responses⟩

/-- One more response of the form of R77 keeps all responses so. -/
theorem responsesWellFormed_append {s t : State} (h : ResponsesWellFormed s) {st : Status} {data : List Byte}
    (hout : t.outbox = s.outbox ++ [responseFrame st data]) (hlen : data.length ≤ 8) (herr : st ≠ .ok → data = []) :
    ResponsesWellFormed t := by
  intro f hf
  rw [hout, List.mem_append, List.mem_singleton] at hf
  rcases hf with hf | rfl
  · exact h f hf
  · exact ⟨st, data, rfl, hlen, herr⟩

theorem inv_raiseFault {s : State} (h : Inv s) (r : FaultReason) : Inv (raiseFault r s) where
  readyKeys := by simp [ReadyKeysScheduled]
  disposedKeys := by simp [DisposedKeysZero]
  faultReason := by simp [FaultReasonMatches]
  responses := h.responses

theorem inv_applyReset {s : State} (h : Inv s) : Inv (applyReset s) where
  readyKeys := by simp [ReadyKeysScheduled]
  disposedKeys := by simp [DisposedKeysZero]
  faultReason := by simp [FaultReasonMatches]
  responses := h.responses

/-- Outside `Faulted` no fault is on record. -/
theorem faultReason_eq_none {s : State} (h : Inv s) (hlife : s.life ≠ .faulted) : s.faultReason = none :=
  not_not.1 fun hr => hlife (h.faultReason.2 hr)

/-- Whatever a command does keeps the invariant. -/
theorem inv_of_nextOf {i : Instr} {s t : State} (h : Inv s) (hlife : s.life ≠ .faulted) (hnext : NextOf params i s t) :
    Inv t := by
  have hnone := faultReason_eq_none h hlife
  cases hnext with
  | faulted r => exact inv_raiseFault h r
  | plain st hst =>
    exact ⟨h.readyKeys, h.disposedKeys, h.faultReason,
      responsesWellFormed_append h.responses (data := []) rfl (by simp) (fun _ => rfl)⟩
  | boolean b =>
    exact ⟨h.readyKeys, h.disposedKeys, h.faultReason,
      responsesWellFormed_append h.responses (st := .ok) (data := [b]) rfl (by simp) (by simp)⟩
  | block hl c out ho =>
    exact ⟨h.readyKeys, h.disposedKeys, h.faultReason,
      responsesWellFormed_append h.responses (st := .ok) (data := out) (by simp [responseFrame, ho]) ho.le (by simp)⟩
  | badIv hl =>
    exact ⟨by simp [ReadyKeysScheduled, hl], fun _ => rfl, h.faultReason,
      responsesWellFormed_append h.responses (st := .invalidIVSize) (data := []) rfl (by simp) (fun _ => rfl)⟩
  | constructed hl d c k hk =>
    exact ⟨fun _ => ⟨k, hk, rfl⟩, by simp [DisposedKeysZero], by simp [FaultReasonMatches, hnone],
      responsesWellFormed_append h.responses (st := .ok) (data := []) rfl (by simp) (by simp)⟩
  | disposed hi hl =>
    exact ⟨by simp [ReadyKeysScheduled, disposeBody_eq], fun _ => rfl,
      by simp [FaultReasonMatches, disposeBody_eq, hnone],
      responsesWellFormed_append h.responses (st := .ok) (data := []) rfl (by simp) (by simp)⟩

/-- Settles O27: each of the things a step can do keeps the invariant. -/
theorem stepKeepsInv : Obligations.StepKeepsInv := by
  intro s t h hstep
  rcases step_next hstep with ⟨-, rfl⟩ | ⟨rest, -, rfl⟩ | ⟨bytes, rest, -, -, rfl⟩ | ⟨bytes, rest, e, -, -, -, rfl⟩ |
    ⟨bytes, rest, i, -, hlife, -, hexec⟩
  · exact h
  · exact inv_applyReset (inv_setInbox h rest)
  · exact inv_setInbox h rest
  · exact inv_raiseFault (inv_setInbox h rest) .badFrame
  · exact inv_of_nextOf (inv_setInbox h rest) hlife (exec_next hexec).2

/-! ## Responses of one step (R77, R252) -/

/-- Whatever a command does, it appends at most one response. -/
theorem outbox_of_nextOf {P : Params} {i : Instr} {s t : State} (hnext : NextOf P i s t) :
    t.outbox = s.outbox ∨ ∃ f, t.outbox = s.outbox ++ [f] := by
  cases hnext with
  | faulted r => exact .inl rfl
  | _ => exact .inr ⟨_, rfl⟩

/-- Settles O30: of the things a step can do only a command answers, and that at most once. -/
theorem stepReturnsAtMostOneResponse : Obligations.StepReturnsAtMostOneResponse := by
  intro s t hstep
  rcases step_next hstep with ⟨-, rfl⟩ | ⟨rest, -, rfl⟩ | ⟨bytes, rest, -, -, rfl⟩ | ⟨bytes, rest, e, -, -, -, rfl⟩ |
    ⟨bytes, rest, i, -, -, -, hexec⟩
  · exact .inl rfl
  · exact .inl rfl
  · exact .inl rfl
  · exact .inl rfl
  · exact outbox_of_nextOf (s := s.setInbox rest) (exec_next hexec).2

/-! ## Two engines side by side (R224, R241) -/

/-- Two engines that both have a next state, the two related, or that stop alike. -/
inductive OutcomesRelated (R : State → State → Prop) :
    Host.Outcome State Fault Refusal → Host.Outcome State Fault Refusal → Prop
  | next {s t : State} (h : R s t) : OutcomesRelated R (.next s) (.next t)
  | stopped (r : Fault) : OutcomesRelated R (.fault r) (.fault r)

/-- One command on two engines in the same `LIFE` has related outcomes if a fault keeps the relation and the body does
where it runs. -/
theorem execWith_related {R : State → State → Prop} (P : Params) (i : Instr) {s t : State} (hlife : s.life = t.life)
    (hfault : ∀ r, R (raiseFault r s) (raiseFault r t))
    (hbody : admission s.life (commandKind i) = .runs → R (commandBody P i s) (commandBody P i t)) :
    OutcomesRelated R (execWith P i s) (execWith P i t) := by
  by_cases hgate : InLifecycleTable i ∨ s.life = .faulted
  · rw [execWith_eq_gated P hgate, execWith_eq_gated P (hlife ▸ hgate)]
    rcases gated_cases (commandKind i) (commandBody P i) s with ⟨hadm, hs⟩ | ⟨r, hadm, hs⟩ | ⟨hadm, hs⟩
    · rw [hs, gated_runs (hlife ▸ hadm)]
      exact .next (hbody hadm)
    · rw [hs, gated_faults (hlife ▸ hadm)]
      exact .next (hfault r)
    · rw [hs, gated_noStep (hlife ▸ (admission_noStep_iff _ _).1 hadm)]
      exact .stopped _
  · obtain ⟨hlong, hnf⟩ := not_or.1 hgate
    cases i with
    | xfinal data =>
      rw [execWith_xfinal_long P (Nat.lt_of_not_le hlong) hnf,
        execWith_xfinal_long P (Nat.lt_of_not_le hlong) (hlife ▸ hnf)]
      exact .next (hfault .badFrame)
    | _ => exact absurd trivial hlong

/-- The two engines look alike from outside: the same `LIFE` and the same responses. -/
def SameFace (s t : State) : Prop := s.life = t.life ∧ s.outbox = t.outbox

theorem emit_sameFace {s t : State} (h : SameFace s t) (frame : List Byte) :
    SameFace (s.emit frame) (t.emit frame) :=
  ⟨h.1, by simp [h.2]⟩

/-- A body that is no transform's reads neither `DIR`, `CHAIN` nor the subkeys (R21, R24, R224). -/
theorem commandBody_sameFace (P : Params) {i : Instr} (hkind : commandKind i ≠ .transform) {s t : State}
    (h : SameFace s t) : SameFace (commandBody P i s) (commandBody P i t) := by
  by_cases hstateless : commandKind i = .stateless
  · obtain ⟨st, data, -, -, hb⟩ := commandBody_stateless P hstateless
    rw [hb s, hb t]
    exact emit_sameFace h _
  obtain ⟨hlife, hout⟩ := h
  cases i with
  | construct dir key iv =>
    simp only [commandBody, constructBody]
    split_ifs <;> simp [SameFace, hlife, hout]
  | dispose => simp [commandBody, disposeBody_eq, SameFace, hout]
  | xform data => exact absurd rfl hkind
  | xfinal data => exact absurd rfl hkind
  | _ => exact absurd rfl hstateless

/-- Settles O28: the only bodies that read the three registers are the transforms'. -/
theorem secretsReachNoOtherResponse : Obligations.SecretsReachNoOtherResponse := by
  intro i s₁ s₂ t₁ t₂ hi hlife hout h₁ h₂
  have hkind : commandKind i ≠ .transform := by
    cases i with
    | xform data => exact absurd rfl (hi data).1
    | xfinal data => exact absurd rfl (hi data).2
    | _ => simp [commandKind]
  have hrel := execWith_related (R := SameFace) params i hlife (fun _ => ⟨rfl, hout⟩)
    fun _ => commandBody_sameFace params hkind ⟨hlife, hout⟩
  rw [execWith_params, execWith_params, h₁, h₂] at hrel
  obtain ⟨hlife', hout'⟩ := hrel
  exact ⟨hout', hlife'⟩

/-- Alike from outside, and while `Ready` alike in the registers, which hold a value then (R37, R241). -/
def SameView (s t : State) : Prop :=
  SameFace s t ∧ (s.life = .ready → s.dir = t.dir ∧ s.chain = t.chain ∧ s.keys = t.keys)

theorem answerBlock_sameView (P : Params) (b : Block) {s t : State} (h : SameView s t) (hready : s.life = .ready) :
    SameView (answerBlock P b s) (answerBlock P b t) := by
  obtain ⟨⟨hlife, hout⟩, hregs⟩ := h
  obtain ⟨hdir, hchain, hkeys⟩ := hregs hready
  cases hd : s.dir with
  | encrypt =>
    rw [answerBlock_encrypt P b hd, answerBlock_encrypt P b (hdir ▸ hd)]
    simp [SameView, SameFace, hlife, hout, hdir, hchain, hkeys]
  | decrypt =>
    rw [answerBlock_decrypt P b hd, answerBlock_decrypt P b (hdir ▸ hd)]
    simp [SameView, SameFace, hlife, hout, hdir, hchain, hkeys]

theorem emit_sameView {s t : State} (h : SameView s t) (frame : List Byte) : SameView (s.emit frame) (t.emit frame) :=
  ⟨emit_sameFace h.1 frame, h.2⟩

/-- Where a command runs, its body keeps two engines alike: what it reads is the same, and where it leaves `Ready` the
registers are written or kept. -/
theorem commandBody_sameView (P : Params) (i : Instr) {s t : State} (h : SameView s t)
    (hadm : admission s.life (commandKind i) = .runs) : SameView (commandBody P i s) (commandBody P i t) := by
  by_cases hstateless : commandKind i = .stateless
  · obtain ⟨st, data, -, -, hb⟩ := commandBody_stateless P hstateless
    rw [hb s, hb t]
    exact emit_sameView h _
  cases i with
  | construct dir key iv =>
    have hempty : s.life = .empty := by simpa [commandKind, admission_runs_iff] using hadm
    simp only [commandBody, constructBody]
    split_ifs
    · exact emit_sameView h _
    · exact emit_sameView h _
    · exact emit_sameView h _
    · refine emit_sameView ?_ _
      exact ⟨h.1, by simp [hempty]⟩
    · refine emit_sameView ?_ _
      exact ⟨⟨rfl, h.1.2⟩, fun _ => ⟨rfl, rfl, rfl⟩⟩
  | xform data =>
    have hready : s.life = .ready := by simpa [commandKind, admission_runs_iff] using hadm
    simp only [commandBody, xformBody]
    split_ifs
    · exact emit_sameView h _
    · exact emit_sameView h _
    · exact answerBlock_sameView P _ h hready
  | xfinal data =>
    have hready : s.life = .ready := by simpa [commandKind, admission_runs_iff] using hadm
    obtain ⟨hdir, -, -⟩ := h.2 hready
    simp only [commandBody, xfinalBody, hdir]
    cases t.dir with
    | encrypt =>
      dsimp only
      split_ifs
      · exact emit_sameView h _
      · exact answerBlock_sameView P _ h hready
    | decrypt =>
      dsimp only
      split_ifs
      · exact emit_sameView h _
      · exact emit_sameView h _
      · exact answerBlock_sameView P _ h hready
  | dispose => exact ⟨commandBody_sameFace P (by simp [commandKind]) h.1, by simp [commandBody, disposeBody_eq]⟩
  | _ => exact absurd rfl hstateless

theorem execWith_sameView (P : Params) (i : Instr) {s t : State} (h : SameView s t) :
    OutcomesRelated SameView (execWith P i s) (execWith P i t) :=
  execWith_related P i h.1.1 (fun _ => ⟨⟨rfl, h.1.2⟩, by simp⟩) (commandBody_sameView P i h)

theorem runBy_sameView (P : Params) (commands : List Instr) {s t : State} (h : SameView s t) :
    OutcomesRelated SameView (runBy (execWith P) commands s) (runBy (execWith P) commands t) := by
  induction commands generalizing s t with
  | nil => exact .next h
  | cons i rest ih =>
    have hstep := execWith_sameView P i h
    simp only [runBy]
    generalize execWith P i s = a, execWith P i t = b at hstep
    cases hstep with
    | next h' => exact ih h'
    | stopped r => exact .stopped r

theorem observation_eq_of_sameView {a b : Host.Outcome State Fault Refusal} (h : OutcomesRelated SameView a b) :
    observation a = observation b := by
  cases h with
  | next h' => exact congrArg some h'.1.2
  | stopped r => rfl

/-- Settles O29: outside `Ready` being alike from outside is enough, and every command keeps the engines alike. -/
theorem unwrittenRegistersAreNotRead : Obligations.UnwrittenRegistersAreNotRead := by
  intro commands s₁ s₂ hlife hready hout
  have hrun := runBy_sameView params commands (s := s₁) (t := s₂) ⟨⟨hlife, hout⟩, fun h => absurd h hready⟩
  rw [funext₂ execWith_params] at hrun
  exact observation_eq_of_sameView hrun

/-! ## Several engines (R36, R228) -/

/-- The engine after its next step, or as it is where it has none. -/
def stepOrStay (s : State) : State :=
  match step s with
  | .next t => t
  | .fault _ => s
  | .refused _ => s

theorem systemStep_of_none {n : Nat} {sys : System} (hn : sys[n]? = none) : systemStep n sys = sys := by
  simp [systemStep, hn]

theorem systemStep_of_some {n : Nat} {sys : System} {s : State} (hn : sys[n]? = some s) :
    systemStep n sys = sys.set n (stepOrStay s) := by
  have hsame : sys.set n s = sys := by
    obtain ⟨hlen, rfl⟩ := List.getElem?_eq_some_iff.1 hn
    exact List.set_getElem_self hlen
  cases hstep : step s <;> simp [systemStep, hn, hstep, stepOrStay, hsame]

/-- A step of engine `n` replaces engine `n` by its next state and keeps every other. -/
theorem systemStep_getElem? (n m : Nat) (sys : System) :
    (systemStep n sys)[m]? = if n = m then sys[m]?.map stepOrStay else sys[m]? := by
  cases hn : sys[n]? with
  | none =>
    rw [systemStep_of_none hn]
    split_ifs with hnm
    · simp [← hnm, hn]
    · rfl
  | some s =>
    have hlen : n < sys.length := (List.getElem?_eq_some_iff.1 hn).1
    rw [systemStep_of_some hn, List.getElem?_set]
    split_ifs with hnm
    · simp [← hnm, hn]
    · rfl

/-- Settles O31: steps of different engines replace different engines. -/
theorem enginesAreIndependent : Obligations.EnginesAreIndependent := by
  intro sys m n hne
  refine ⟨by simp [systemStep_getElem?, hne.symm], List.ext_getElem? fun k => ?_⟩
  simp only [systemStep_getElem?]
  by_cases hm : m = k
  · have hn : n ≠ k := by omega
    simp [hm, hn]
  · simp [hm]

end Sys2Proof.Machine
end

section
/-! Proofs about blocks given one by one: the CBC recurrence of both directions, and the data commands of a stream
(R182 to R189, R200, R201). -/

namespace Sys2Proof.Machine
open Sys2Proof.Safety

/-! ## Runs of commands -/

theorem runBy_cons_of_next {run : Runner} {i : Instr} {s t : State} (h : run i s = .next t) (rest : List Instr) :
    runBy run (i :: rest) s = runBy run rest t := by
  simp only [runBy, h]

theorem runBy_append_of_next {run : Runner} {a : List Instr} {s t : State} (h : runBy run a s = .next t)
    (b : List Instr) : runBy run (a ++ b) s = runBy run b t := by
  simp only [runBy_append, h]

/-- The engine of the host's interface runs commands under the default parameters. -/
theorem runCommands_eq_runBy (commands : List Instr) (s : State) :
    runCommands commands s = runBy (execWith params) commands s := by
  rw [funext₂ execWith_params]
  rfl

/-! ## What data commands leave: the chain and the responses -/

/-- The engine with another chaining value and with responses added; a transform that runs leaves nothing else
changed. -/
def State.answered (chain : Block) (frames : List (List Byte)) (s : State) : State :=
  { s with chain := chain, outbox := s.outbox ++ frames }

section
variable (s : State) (c c' : Block) (fs fs' : List (List Byte))

@[simp] theorem State.answered_life : (s.answered c fs).life = s.life := rfl
@[simp] theorem State.answered_dir : (s.answered c fs).dir = s.dir := rfl
@[simp] theorem State.answered_chain : (s.answered c fs).chain = c := rfl
@[simp] theorem State.answered_keys : (s.answered c fs).keys = s.keys := rfl
@[simp] theorem State.answered_inbox : (s.answered c fs).inbox = s.inbox := rfl
@[simp] theorem State.answered_outbox : (s.answered c fs).outbox = s.outbox ++ fs := rfl

@[simp] theorem State.answered_nil : s.answered s.chain [] = s := by
  simp [State.answered]

@[simp] theorem State.answered_answered : (s.answered c fs).answered c' fs' = s.answered c' (fs ++ fs') := by
  simp [State.answered]

end

/-! ## The recurrence of either direction (R183, R184, R189) -/

section
variable (T : Tables) (keys : RoundKeys)

/-- The block that one block step gives, from the chaining value and its input. -/
def stepOutput : Direction → Block → Block → Block
  | .encrypt, c, b => feistelCore T keys .encrypt (b ^^^ c)
  | .decrypt, c, b => feistelCore T keys .decrypt b ^^^ c

/-- The chaining value after one block step: the ciphertext, which to decrypt is the input (R21). -/
def stepChain : Direction → Block → Block → Block
  | .encrypt, c, b => feistelCore T keys .encrypt (b ^^^ c)
  | .decrypt, _, b => b

/-- The blocks that block steps one after another give. -/
def cbcOutput (d : Direction) : Block → List Block → List Block
  | _, [] => []
  | c, b :: bs => stepOutput T keys d c b :: cbcOutput d (stepChain T keys d c b) bs

/-- The chaining value after block steps one after another. -/
def cbcChain (d : Direction) (c : Block) (blocks : List Block) : Block := blocks.foldl (stepChain T keys d) c

variable (d : Direction) (c : Block) (bs : List Block)

theorem cbcOutput_append (bs' : List Block) :
    cbcOutput T keys d c (bs ++ bs') = cbcOutput T keys d c bs ++ cbcOutput T keys d (cbcChain T keys d c bs) bs' := by
  induction bs generalizing c with
  | nil => rfl
  | cons b bs ih => simp [cbcOutput, cbcChain, ih]

theorem cbcChain_append (bs' : List Block) :
    cbcChain T keys d c (bs ++ bs') = cbcChain T keys d (cbcChain T keys d c bs) bs' := List.foldl_append

@[simp] theorem cbcOutput_length : (cbcOutput T keys d c bs).length = bs.length := by
  induction bs generalizing c with
  | nil => rfl
  | cons b bs ih => simp [cbcOutput, ih]

theorem cbcOutput_encrypt : cbcOutput T keys .encrypt c bs = cbcEncrypt (feistelCore T keys .encrypt) c bs := by
  induction bs generalizing c with
  | nil => rfl
  | cons b bs ih => simp [cbcOutput, cbcEncrypt, stepOutput, stepChain, ih]

theorem cbcOutput_decrypt : cbcOutput T keys .decrypt c bs = cbcDecrypt (feistelCore T keys .decrypt) c bs := by
  induction bs generalizing c with
  | nil => rfl
  | cons b bs ih => simp [cbcOutput, cbcDecrypt, stepOutput, stepChain, ih]

/-- To encrypt, the chaining value ends at the last output. -/
theorem cbcChain_encrypt :
    cbcChain T keys .encrypt c bs = (cbcEncrypt (feistelCore T keys .encrypt) c bs).getLastD c := by
  induction bs generalizing c with
  | nil => rfl
  | cons b bs ih =>
    rw [cbcEncrypt, List.getLastD_cons]
    exact ih _

/-- To decrypt, the chaining value ends at the last input. -/
theorem cbcChain_decrypt : cbcChain T keys .decrypt c bs = bs.getLastD c := by
  induction bs generalizing c with
  | nil => rfl
  | cons b bs ih =>
    rw [List.getLastD_cons]
    exact ih _

end

/-! ## Blocks by `XFORM` (R182, R189) -/

theorem responseFrame_split8 (v : Block) : responseFrame .ok (split8 v) = 0x00 :: 0x08 :: split8 v := by
  simp [responseFrame]

theorem answerBlock_eq_answered (P : Params) (b : Block) (s : State) :
    answerBlock P b s = s.answered (stepChain P.tables s.keys s.dir s.chain b)
      [responseFrame .ok (split8 (stepOutput P.tables s.keys s.dir s.chain b))] := by
  rw [responseFrame_split8]
  cases hdir : s.dir with
  | encrypt => exact answerBlock_encrypt P b hdir
  | decrypt => exact answerBlock_decrypt P b hdir

theorem execWith_xform_split8 (P : Params) (b : Block) {s : State} (hlife : s.life = .ready) :
    execWith P (.xform (split8 b)) s = .next (s.answered (stepChain P.tables s.keys s.dir s.chain b)
      [responseFrame .ok (split8 (stepOutput P.tables s.keys s.dir s.chain b))]) := by
  rw [execWith_xform_ready P _ hlife, xformBody_of_length_eight P (split8_length b), join8_split8,
    answerBlock_eq_answered]

/-- Blocks one by one in a `Ready` engine: one response each, chained block to block. -/
theorem runBy_xforms (P : Params) (blocks : List Block) {s : State} (hlife : s.life = .ready) :
    runBy (execWith P) (blocks.map fun b => .xform (split8 b)) s =
      .next (s.answered (cbcChain P.tables s.keys s.dir s.chain blocks)
        ((cbcOutput P.tables s.keys s.dir s.chain blocks).map fun b => responseFrame .ok (split8 b))) := by
  induction blocks generalizing s with
  | nil => simp [runBy, cbcChain, cbcOutput]
  | cons b blocks ih =>
    rw [List.map_cons, runBy_cons_of_next (execWith_xform_split8 P b hlife), ih (by simpa using hlife)]
    simp [cbcChain, cbcOutput]

/-- Settles O49: the run of `XFORM`s in either direction, where the recurrence and its last value are the
specification's. -/
theorem blocksAreChained : Obligations.BlocksAreChained := by
  intro s blocks hlife
  have hrun := runBy_xforms params blocks hlife
  simp only [responseFrame_split8, params_tables, ← runCommands_eq_runBy] at hrun
  refine ⟨fun hdir => ?_, fun hdir => ?_⟩
  · rwa [hdir, cbcChain_encrypt, cbcOutput_encrypt] at hrun
  · rwa [hdir, cbcChain_decrypt, cbcOutput_decrypt] at hrun

/-! ## The closing `XFINAL` (R185, R187) -/

/-- The blocks that an `XFINAL` on 0 to 8 bytes makes. -/
def finalBlocks : Direction → List Byte → List Block
  | .encrypt, data => if data.length = 0 then [] else [join8 (zeroPad data)]
  | .decrypt, data => if data.length = 8 then [join8 data] else []

/-- The status that an `XFINAL` on 0 to 8 bytes answers. -/
def finalStatus : Direction → List Byte → Status
  | .encrypt, _ => .ok
  | .decrypt, data => if data.length % 8 = 0 then .ok else .incompleteFinalBlock

@[simp] theorem bytesOf_nil : bytesOf [] = [] := rfl

@[simp] theorem bytesOf_cons (b : Block) (bs : List Block) : bytesOf (b :: bs) = split8 b ++ bytesOf bs := rfl

theorem finalBlocks_of_length_zero (d : Direction) {data : List Byte} (h : data.length = 0) :
    finalBlocks d data = [] := by
  cases d <;> simp [finalBlocks, h]

theorem finalStatus_of_length_zero (d : Direction) {data : List Byte} (h : data.length = 0) :
    finalStatus d data = .ok := by
  cases d <;> simp [finalStatus, h]

/-- What an `XFINAL` does, in the terms of the recurrence: the block steps of its blocks and one response with their
output. -/
theorem xfinalBody_eq_answered (P : Params) {data : List Byte} (hlen : data.length ≤ 8) (s : State) :
    xfinalBody P data s = s.answered (cbcChain P.tables s.keys s.dir s.chain (finalBlocks s.dir data))
      [responseFrame (finalStatus s.dir data)
        (bytesOf (cbcOutput P.tables s.keys s.dir s.chain (finalBlocks s.dir data)))] := by
  by_cases hzero : data.length = 0
  · rw [xfinalBody_of_length_zero P hzero, finalBlocks_of_length_zero _ hzero, finalStatus_of_length_zero _ hzero]
    rfl
  cases hdir : s.dir with
  | encrypt =>
    rw [xfinalBody_encrypt P hzero hdir, answerBlock_eq_answered, hdir]
    simp [finalBlocks, finalStatus, hzero, cbcChain, cbcOutput]
  | decrypt =>
    by_cases hfull : data.length = 8
    · rw [xfinalBody_of_length_eight P hfull, answerBlock_eq_answered, hdir]
      simp [finalBlocks, finalStatus, hfull, cbcChain, cbcOutput]
    · have hblocks : finalBlocks .decrypt data = [] := by simp [finalBlocks, hfull]
      have hstatus : finalStatus .decrypt data = .incompleteFinalBlock := by
        have hmod : data.length % 8 ≠ 0 := by omega
        simp [finalStatus, hmod]
      rw [xfinalBody_decrypt_short P hzero hfull hdir, hblocks, hstatus]
      rfl

/-! ## The data commands of a stream (R200, R201) -/

@[simp] theorem blocksOf_length (n : Nat) (bytes : List Byte) : (blocksOf n bytes).length = n := by
  induction n generalizing bytes with
  | zero => rfl
  | succ n ih => simp [blocksOf, ih]

theorem dataCommands_eq {q : Nat} {msg : List Byte} (h : 8 * q ≤ msg.length) :
    dataCommands q msg =
      ((blocksOf q msg).map fun b => Instr.xform (split8 b)) ++ [.xfinal (msg.drop (8 * q))] := by
  induction q generalizing msg with
  | zero => rfl
  | succ q ih =>
    have htake : (msg.take 8).length = 8 := by rw [List.length_take]; omega
    have hdrop : 8 * q ≤ (msg.drop 8).length := by rw [List.length_drop]; omega
    have hnext : 8 + 8 * q = 8 * (q + 1) := by omega
    simp only [dataCommands, ih hdrop, List.drop_drop, hnext, blocksOf, List.map_cons, split8_join8 htake,
      List.cons_append]

/-- The blocks that the data commands make of a message cut after `q` blocks. -/
def dataBlocks (d : Direction) (q : Nat) (msg : List Byte) : List Block :=
  blocksOf q msg ++ finalBlocks d (msg.drop (8 * q))

/-! ### The responses and what they carry -/

@[simp] theorem responseData_responseFrame (st : Status) (data : List Byte) :
    responseData (responseFrame st data) = data := rfl

theorem outputData_append (fs fs' : List (List Byte)) : outputData (fs ++ fs') = outputData fs ++ outputData fs' := by
  simp [outputData]

theorem bytesOf_append (bs bs' : List Block) : bytesOf (bs ++ bs') = bytesOf bs ++ bytesOf bs' := by
  simp [bytesOf]

/-- The responses to blocks carry the bytes of the blocks. -/
theorem outputData_map_split8 (bs : List Block) :
    outputData (bs.map fun b => responseFrame .ok (split8 b)) = bytesOf bs := by
  simp [outputData, bytesOf, Function.comp_def]

section
variable (T : Tables) (keys : RoundKeys) (d : Direction) (c : Block) (q : Nat) (msg : List Byte)

/-- The response to the closing `XFINAL` of a message cut after `q` blocks. -/
def finalResponse : List Byte :=
  responseFrame (finalStatus d (msg.drop (8 * q)))
    (bytesOf (cbcOutput T keys d (cbcChain T keys d c (blocksOf q msg)) (finalBlocks d (msg.drop (8 * q)))))

/-- The responses to the data commands: one to each `XFORM`, then the one to `XFINAL`. -/
def dataResponses : List (List Byte) :=
  ((cbcOutput T keys d c (blocksOf q msg)).map fun b => responseFrame .ok (split8 b)) ++
    [finalResponse T keys d c q msg]

theorem dataResponses_length : (dataResponses T keys d c q msg).length = q + 1 := by
  simp [dataResponses]

/-- The responses to the data commands carry the output of the recurrence. -/
theorem outputData_dataResponses :
    outputData (dataResponses T keys d c q msg) = bytesOf (cbcOutput T keys d c (dataBlocks d q msg)) := by
  rw [dataResponses, outputData_append, outputData_map_split8, dataBlocks, cbcOutput_append, bytesOf_append]
  simp [outputData, finalResponse]

end

/-- The data commands of a message cut after `q` blocks, at most 8 bytes left for `XFINAL`. -/
theorem runBy_dataCommands (P : Params) {q : Nat} {msg : List Byte} (hlow : 8 * q ≤ msg.length)
    (hhigh : msg.length ≤ 8 * q + 8) {s : State} (hlife : s.life = .ready) :
    runBy (execWith P) (dataCommands q msg) s =
      .next (s.answered (cbcChain P.tables s.keys s.dir s.chain (dataBlocks s.dir q msg))
        (dataResponses P.tables s.keys s.dir s.chain q msg)) := by
  have htail : (msg.drop (8 * q)).length ≤ 8 := by rw [List.length_drop]; omega
  rw [dataCommands_eq hlow, runBy_append_of_next (runBy_xforms P (blocksOf q msg) hlife),
    runBy_cons_of_next (execWith_xfinal_ready P htail (by simpa using hlife)), xfinalBody_eq_answered P htail]
  simp [runBy, dataBlocks, dataResponses, finalResponse, cbcChain_append]

/-! ## The blocks of a stream do not depend on the cut (R200, R201) -/

/-- The blocks of a whole stream: to encrypt those of the message filled with zero bytes, to decrypt the full ones. -/
def streamBlocks : Direction → List Byte → List Block
  | .encrypt, msg => blocksOf ((msg.length + 7) / 8) (padToBlocks msg)
  | .decrypt, msg => blocksOf (msg.length / 8) msg

theorem blocksOf_add (m n : Nat) (bytes : List Byte) :
    blocksOf (m + n) bytes = blocksOf m bytes ++ blocksOf n (bytes.drop (8 * m)) := by
  induction m generalizing bytes with
  | zero => simp [blocksOf]
  | succ m ih =>
    have hnext : 8 + 8 * m = 8 * (m + 1) := by omega
    simp only [Nat.succ_add m n, blocksOf, ih, List.drop_drop, hnext, List.cons_append]

/-- Bytes after the blocks asked for do not matter. -/
theorem blocksOf_append {q : Nat} {bytes : List Byte} (h : 8 * q ≤ bytes.length) (rest : List Byte) :
    blocksOf q (bytes ++ rest) = blocksOf q bytes := by
  induction q generalizing bytes with
  | zero => rfl
  | succ q ih =>
    have hdrop : 8 * q ≤ (bytes.drop 8).length := by rw [List.length_drop]; omega
    rw [blocksOf, blocksOf, List.take_append_of_le_length (by omega), List.drop_append_of_le_length (by omega),
      ih hdrop]

theorem blocksOf_one {bytes : List Byte} (h : bytes.length ≤ 8) : blocksOf 1 bytes = [join8 bytes] := by
  rw [blocksOf, blocksOf, List.take_of_length_le h]

theorem dataBlocks_eq_streamBlocks (d : Direction) {q : Nat} {msg : List Byte} (hlow : 8 * q ≤ msg.length)
    (hhigh : msg.length ≤ 8 * q + 8) : dataBlocks d q msg = streamBlocks d msg := by
  have htail : (msg.drop (8 * q)).length = msg.length - 8 * q := List.length_drop
  cases d with
  | encrypt =>
    by_cases hempty : msg.length = 8 * q
    · have hcount : (msg.length + 7) / 8 = q := by omega
      have hnone : finalBlocks .encrypt (msg.drop (8 * q)) = [] := by simp [finalBlocks, hempty]
      rw [dataBlocks, streamBlocks, hnone, hcount, padToBlocks, blocksOf_append hlow, List.append_nil]
    · have hcount : (msg.length + 7) / 8 = q + 1 := by omega
      have hfill : (8 - msg.length % 8) % 8 = 8 - (msg.length - 8 * q) := by omega
      have hone : finalBlocks .encrypt (msg.drop (8 * q)) = [join8 (zeroPad (msg.drop (8 * q)))] :=
        if_neg (by omega)
      have hpadded : (padToBlocks msg).drop (8 * q) = zeroPad (msg.drop (8 * q)) := by
        rw [padToBlocks, List.drop_append_of_le_length hlow, hfill, zeroPad, htail, Config.blockBytes_eq]
      rw [dataBlocks, streamBlocks, hone, hcount, blocksOf_add, hpadded, padToBlocks, blocksOf_append hlow,
        blocksOf_one (zeroPad_length (by omega)).le]
  | decrypt =>
    by_cases hfull : msg.length = 8 * q + 8
    · have hcount : msg.length / 8 = q + 1 := by omega
      have hone : finalBlocks .decrypt (msg.drop (8 * q)) = [join8 (msg.drop (8 * q))] := if_pos (by omega)
      rw [dataBlocks, streamBlocks, hone, hcount, blocksOf_add, blocksOf_one (by omega)]
    · have hcount : msg.length / 8 = q := by omega
      have hnone : finalBlocks .decrypt (msg.drop (8 * q)) = [] := if_neg (by omega)
      rw [dataBlocks, streamBlocks, hnone, hcount, List.append_nil]

end Sys2Proof.Machine
end

section
/-! Proofs about whole streams: from construction to disposal, in both directions and under any parameters; the round
trip; and runs of frames (R59, R200 to R202, R251). -/

namespace Sys2Proof.Machine
open Sys2Proof.Safety

theorem classify_eq_ordinary_iff {S : KeySets} {k : Block} :
    classify S k = .ordinary ↔ k ∉ S.weak ∧ k ∉ S.semiWeak := by
  unfold classify isWeakKey isSemiWeakKey
  split_ifs with hw hs <;> simp_all

/-! ## What a stream leaves -/

section
variable (P : Params) (d : Direction) (key iv : List Byte) (q : Nat) (msg : List Byte) (s : State)

/-- The engine that an accepted `CONSTRUCT` makes (R181). -/
def State.constructed : State :=
  { s with life := .ready, dir := d, chain := join8 iv, keys := keySchedule P.tables (join8 key),
           outbox := s.outbox ++ [[0x00, 0x00]] }

/-- The responses to the data commands of a stream that is cut after `q` blocks. -/
def streamResponses : List (List Byte) :=
  dataResponses P.tables (keySchedule P.tables (join8 key)) d (join8 iv) q msg

/-- The engine at the end of a stream that is cut after `q` blocks: constructed, its data answered, disposed of. -/
def State.streamed : State :=
  disposeBody ((s.constructed P d key iv).answered
    (cbcChain P.tables (keySchedule P.tables (join8 key)) d (join8 iv) (streamBlocks d msg))
    (streamResponses P d key iv q msg))

theorem streamed_outbox : (s.streamed P d key iv q msg).outbox =
    s.outbox ++ ([0x00, 0x00] :: streamResponses P d key iv q msg ++ [[0x00, 0x00]]) := by
  simp [State.streamed, State.constructed, disposeBody_eq]

theorem newResponses_streamed : newResponses s (s.streamed P d key iv q msg) =
    [0x00, 0x00] :: streamResponses P d key iv q msg ++ [[0x00, 0x00]] := by
  rw [newResponses, streamed_outbox, List.drop_left]

variable {P d key iv q msg s}

/-- What a stream returns: the output of the recurrence over its blocks, whatever the cut. -/
theorem outputData_streamed (hlow : 8 * q ≤ msg.length) (hhigh : msg.length ≤ 8 * q + 8) :
    outputData (newResponses s (s.streamed P d key iv q msg)) =
      bytesOf (cbcOutput P.tables (keySchedule P.tables (join8 key)) d (join8 iv) (streamBlocks d msg)) := by
  have hstatus : outputData [[0x00, 0x00]] = [] := rfl
  rw [newResponses_streamed, List.cons_append, ← List.singleton_append, outputData_append, outputData_append, hstatus,
    List.nil_append, List.append_nil, streamResponses, outputData_dataResponses,
    dataBlocks_eq_streamBlocks d hlow hhigh]

/-- A stream cut after `q` blocks runs to its end on an `Empty` engine. -/
theorem runBy_stream (hlife : s.life = .empty) (hkey : key.length = 8)
    (hordinary : classify P.keySets (join8 key) = .ordinary) (hiv : iv.length = 8) (hlow : 8 * q ≤ msg.length)
    (hhigh : msg.length ≤ 8 * q + 8) :
    runBy (execWith P) (.construct d key iv :: (dataCommands q msg ++ [.dispose])) s =
      .next (s.streamed P d key iv q msg) := by
  obtain ⟨hweak, hsemi⟩ := classify_eq_ordinary_iff.1 hordinary
  have hconstruct : execWith P (.construct d key iv) s = .next (s.constructed P d key iv) := by
    rw [execWith_construct_of_empty P d key iv hlife, constructBody_of_accepted P d s hkey hweak hsemi hiv]
    rfl
  have hdata := runBy_dataCommands P hlow hhigh (s := s.constructed P d key iv) rfl
  have hdispose (t : State) (ht : t.life = .ready) : execWith P .dispose t = .next (disposeBody t) :=
    execWith_of_runs P trivial (admission_dispose ht)
  rw [runBy_cons_of_next hconstruct, runBy_append_of_next hdata, runBy_cons_of_next (hdispose _ rfl)]
  simp only [runBy, State.streamed, ← dataBlocks_eq_streamBlocks d hlow hhigh]
  rfl

end

theorem leadingBlocks_low (msg : List Byte) : 8 * leadingBlocks msg ≤ msg.length := by
  unfold leadingBlocks
  omega

theorem leadingBlocks_high (msg : List Byte) : msg.length ≤ 8 * leadingBlocks msg + 8 := by
  unfold leadingBlocks
  omega

/-- The stream as the specification cuts it. -/
theorem runBy_streamCommands {P : Params} (d : Direction) {key iv : List Byte} (msg : List Byte) {s : State}
    (hlife : s.life = .empty) (hkey : key.length = 8) (hordinary : classify P.keySets (join8 key) = .ordinary)
    (hiv : iv.length = 8) : runBy (execWith P) (streamCommands d key iv msg) s =
      .next (s.streamed P d key iv (leadingBlocks msg) msg) :=
  runBy_stream hlife hkey hordinary hiv (leadingBlocks_low msg) (leadingBlocks_high msg)

theorem outputData_stream (P : Params) (d : Direction) (key iv msg : List Byte) (s : State) :
    outputData (newResponses s (s.streamed P d key iv (leadingBlocks msg) msg)) =
      bytesOf (cbcOutput P.tables (keySchedule P.tables (join8 key)) d (join8 iv) (streamBlocks d msg)) :=
  outputData_streamed (leadingBlocks_low msg) (leadingBlocks_high msg)

@[simp] theorem bytesOf_length (bs : List Block) : (bytesOf bs).length = 8 * bs.length := by
  induction bs with
  | nil => rfl
  | cons b bs ih => simp [ih]; omega

/-! ## The streams are CBC (R200, R201) -/

/-- Settles O50: to encrypt, the recurrence is the specification's over the blocks of the filled message. -/
theorem encryptStreamIsCbc : Obligations.EncryptStreamIsCbc := by
  intro s key iv msg hlife hkey hordinary hiv
  refine ⟨_, (runCommands_eq_runBy _ s).trans (runBy_streamCommands .encrypt msg hlife hkey hordinary hiv), rfl, ?_, ?_⟩
  · rw [outputData_stream, cbcOutput_encrypt]
    rfl
  · rw [outputData_stream, bytesOf_length, cbcOutput_length, streamBlocks, blocksOf_length]

/-- To decrypt, a message with a short last block ends in `IncompleteFinalBlock` (R201, R216). -/
theorem finalResponse_decrypt_short (T : Tables) (keys : RoundKeys) (c : Block) {q : Nat} {msg : List Byte}
    (hlow : 8 * q ≤ msg.length) (hshort : msg.length % 8 ≠ 0) :
    finalResponse T keys .decrypt c q msg = [0x06, 0x00] := by
  have htail : (msg.drop (8 * q)).length = msg.length - 8 * q := List.length_drop
  have hblocks : finalBlocks .decrypt (msg.drop (8 * q)) = [] := if_neg (by omega)
  have hstatus : finalStatus .decrypt (msg.drop (8 * q)) = .incompleteFinalBlock := if_neg (by omega)
  rw [finalResponse, hblocks, hstatus]
  rfl

/-- Settles O52: to decrypt, the recurrence is the specification's over the full blocks. -/
theorem decryptStreamIsCbc : Obligations.DecryptStreamIsCbc := by
  intro s key iv ct hlife hkey hordinary hiv
  refine ⟨_, (runCommands_eq_runBy _ s).trans (runBy_streamCommands .decrypt ct hlife hkey hordinary hiv), rfl, ?_, ?_,
    fun hshort => ?_⟩
  · rw [outputData_stream, cbcOutput_decrypt]
    rfl
  · rw [outputData_stream, bytesOf_length, cbcOutput_length, streamBlocks, blocksOf_length]
  · have hregroup (a b c : List Byte) (fs : List (List Byte)) : a :: (fs ++ [b]) ++ [c] = (a :: fs) ++ [b, c] := by simp
    rw [newResponses_streamed, streamResponses, dataResponses,
      finalResponse_decrypt_short _ _ _ (leadingBlocks_low ct) hshort]
    exact ⟨_, hregroup _ _ _ _⟩

/-- Settles O51: both cuts make the blocks of the message, so they end in the same engine. -/
theorem bothCutsOfAStreamAgree : Obligations.BothCutsOfAStreamAgree := by
  intro s dir key iv msg hlife hkey hordinary hiv hfull
  have hlow : 8 * (msg.length / 8) ≤ msg.length := by omega
  have hhigh : msg.length ≤ 8 * (msg.length / 8) + 8 := by omega
  refine ⟨_, _, (runCommands_eq_runBy _ s).trans (runBy_streamCommands dir msg hlife hkey hordinary hiv),
    (runCommands_eq_runBy _ s).trans (runBy_stream hlife hkey hordinary hiv hlow hhigh), ?_, rfl⟩
  rw [outputData_stream, outputData_streamed hlow hhigh]

/-! ## The round trip (R202) -/

/-- The bytes of blocks, cut into blocks. -/
theorem blocksOf_bytesOf (bs : List Block) : blocksOf bs.length (bytesOf bs) = bs := by
  induction bs with
  | nil => rfl
  | cons b bs ih =>
    rw [List.length_cons, blocksOf, bytesOf_cons, List.take_left' (split8_length b), List.drop_left' (split8_length b),
      join8_split8, ih]

/-- Whole blocks of bytes, put together again. -/
theorem bytesOf_blocksOf {n : Nat} {bytes : List Byte} (h : bytes.length = 8 * n) :
    bytesOf (blocksOf n bytes) = bytes := by
  induction n generalizing bytes with
  | zero => exact (List.eq_nil_of_length_eq_zero h).symm
  | succ n ih =>
    have htake : (bytes.take 8).length = 8 := by rw [List.length_take]; omega
    have hdrop : (bytes.drop 8).length = 8 * n := by rw [List.length_drop]; omega
    rw [blocksOf, bytesOf_cons, split8_join8 htake, ih hdrop, List.take_append_drop]

theorem padToBlocks_length (msg : List Byte) : (padToBlocks msg).length = 8 * ((msg.length + 7) / 8) := by
  rw [padToBlocks, List.length_append, List.length_replicate]
  omega

/-- The recurrence to decrypt undoes the one to encrypt when the datapath does. -/
theorem cbcDecrypt_cbcEncrypt {E D : Block → Block} (h : ∀ b, D (E b) = b) (c : Block) (bs : List Block) :
    cbcDecrypt D c (cbcEncrypt E c bs) = bs := by
  induction bs generalizing c with
  | nil => rfl
  | cons b bs ih => rw [cbcEncrypt, cbcDecrypt, ih, h, BitVec.xor_assoc, BitVec.xor_self, BitVec.xor_zero]

theorem streamBlocks_decrypt_bytesOf (bs : List Block) : streamBlocks .decrypt (bytesOf bs) = bs := by
  rw [streamBlocks, bytesOf_length, Nat.mul_div_cancel_left _ (by decide), blocksOf_bytesOf]

/-- Settles O58: decryption takes the ciphertext's blocks as they are, and the recurrences and the datapath undo each
other. -/
theorem streamRoundTripUnderAnyTables : Obligations.StreamRoundTripUnderAnyTables := by
  intro P s₁ s₂ key iv msg hT h₁ h₂ hkey hordinary hiv
  refine ⟨_, _, runBy_streamCommands .encrypt msg h₁ hkey hordinary hiv,
    runBy_streamCommands .decrypt _ h₂ hkey hordinary hiv, ?_⟩
  rw [outputData_stream, outputData_stream, streamBlocks_decrypt_bytesOf, cbcOutput_decrypt, cbcOutput_encrypt,
    cbcDecrypt_cbcEncrypt (feistelCore_feistelCore_of_reverse hT _ rfl)]
  exact bytesOf_blocksOf (padToBlocks_length msg)

/-- Settles O53: the default tables meet the premise, and a message of full blocks is not filled. -/
theorem streamRoundTrip : Obligations.StreamRoundTrip := by
  intro s₁ s₂ key iv msg h₁ h₂ hkey hordinary hiv
  obtain ⟨t₁, t₂, hrun₁, hrun₂, hout⟩ :=
    streamRoundTripUnderAnyTables params s₁ s₂ key iv msg finalInvertsInitial_tables h₁ h₂ hkey hordinary hiv
  refine ⟨t₁, t₂, (runCommands_eq_runBy _ _).trans hrun₁, (runCommands_eq_runBy _ _).trans hrun₂, hout, fun hfull => ?_⟩
  simpa [hfull] using hout

/-! ## Frames run their commands (R59, R251) -/

/-- A machine that has a step takes it first. -/
theorem run_succ_of_step {M : Host.Core} {s t : M.State} (h : M.step s = .next t) (k : Nat) :
    M.run (k + 1) s = M.run k t := by
  rw [Host.Core.run, h]

/-- A step on the frame of a command that has a next state is the command, with the same events left waiting. -/
theorem step_frame_of_exec {i : Instr} {s u : State} (hwf : i.wellFormed = true) (h : exec i s = .next u)
    (events : List HostEvent) : step (s.setInbox (.frame (encode i) :: events)) = .next (u.setInbox events) := by
  rw [stepRunsDecodedFrame (s.setInbox (.frame (encode i) :: events)) _ _ i (exec_next h).1 rfl (decodeOfEncode i hwf)]
  exact (exec_setInbox i s events).trans (by rw [h]; rfl)

/-- A run of commands that has a next state: its first command has one, and the rest runs from there. -/
theorem runCommands_cons_eq_next {i : Instr} {rest : List Instr} {s t : State}
    (h : runCommands (i :: rest) s = .next t) : ∃ u, exec i s = .next u ∧ runCommands rest u = .next t := by
  rw [runCommands_cons] at h
  cases hi : exec i s with
  | next u => exact ⟨u, rfl, by rwa [hi] at h⟩
  | fault r => simp [hi] at h
  | refused r => simp [hi] at h

/-- The frames of commands waiting alone run the commands, which read nothing of what waits. -/
theorem core_run_frames {commands : List Instr} {s t : State} (hwf : ∀ i ∈ commands, i.wellFormed = true)
    (h : runCommands commands s = .next t) :
    core.run commands.length (s.setInbox (commands.map fun i => .frame (encode i))) = .next (t.setInbox []) := by
  induction commands generalizing s with
  | nil =>
    cases h
    rfl
  | cons i rest ih =>
    obtain ⟨hi, hrest⟩ := List.forall_mem_cons.1 hwf
    obtain ⟨u, hexec, hrun⟩ := runCommands_cons_eq_next h
    have hstep : core.step (s.setInbox ((i :: rest).map fun i => .frame (encode i))) =
        .next (u.setInbox (rest.map fun i => .frame (encode i))) := step_frame_of_exec hi hexec _
    exact (run_succ_of_step hstep rest.length).trans (ih hrest hrun)

/-- Commands keep what the host will do. -/
theorem runCommands_inbox {commands : List Instr} {s t : State} (h : runCommands commands s = .next t) :
    t.inbox = s.inbox := by
  induction commands generalizing s with
  | nil =>
    cases h
    rfl
  | cons i rest ih =>
    obtain ⟨u, hexec, hrun⟩ := runCommands_cons_eq_next h
    have hkeep := exec_setInbox i s s.inbox
    rw [show s.setInbox s.inbox = s from rfl, hexec] at hkeep
    have hu : u = u.setInbox s.inbox := Host.Outcome.next.inj hkeep
    rw [ih hrun, hu]
    rfl

/-- Settles O55: the frames wait alone in the inbox, and no command changes what waits. -/
theorem framesRunTheirCommands : Obligations.FramesRunTheirCommands := by
  intro commands s t hwf hin h
  have hsend : s.sendAll commands = s.setInbox (commands.map fun i => .frame (encode i)) := by
    simp [State.sendAll, State.setInbox, hin]
  have hkept : t.setInbox [] = t := by
    simp [State.setInbox, ← hin, ← runCommands_inbox h]
  rw [hsend, core_run_frames hwf h, hkept]

/-! ## The frames of a stream (R200, R201, R251) -/

theorem streamCommands_wellFormed (d : Direction) {key iv : List Byte} (msg : List Byte) (hkey : key.length = 8)
    (hiv : iv.length = 8) : ∀ i ∈ streamCommands d key iv msg, i.wellFormed = true := by
  have hlow := leadingBlocks_low msg
  have hhigh := leadingBlocks_high msg
  have htail : (msg.drop (8 * leadingBlocks msg)).length ≤ 8 := by rw [List.length_drop]; omega
  have hxform (b : Block) : (Instr.xform (split8 b)).wellFormed = true := by simp [Instr.wellFormed, fitsLengthByte]
  have hconstruct : (Instr.construct d key iv).wellFormed = true := by
    simp [Instr.wellFormed, fitsLengthByte, hkey, hiv]
  have hxfinal : (Instr.xfinal (msg.drop (8 * leadingBlocks msg))).wellFormed = true := decide_eq_true htail
  intro i hi
  simp only [streamCommands, dataCommands_eq hlow, List.mem_cons, List.mem_append, List.mem_map, List.not_mem_nil,
    or_false] at hi
  rcases hi with rfl | (⟨b, -, rfl⟩ | rfl) | rfl
  · exact hconstruct
  · exact hxform b
  · exact hxfinal
  · rfl

/-- Settles O56: the frames run the commands of the stream, which end in `Disposed` with one response each. -/
theorem streamFramesEndDisposed : Obligations.StreamFramesEndDisposed := by
  intro s dir key iv msg hin hlife hkey hordinary hiv
  have hrun := (runCommands_eq_runBy _ s).trans (runBy_streamCommands dir msg hlife hkey hordinary hiv)
  refine ⟨_, framesRunTheirCommands _ s _ (streamCommands_wellFormed dir msg hkey hiv) hin hrun,
    ⟨⟨(runCommands_inbox hrun).trans hin, by simp [NoFault, State.streamed, disposeBody_eq]⟩, rfl⟩, ?_⟩
  rw [streamed_outbox]
  simp [streamResponses, dataResponses_length]
  omega

end Sys2Proof.Machine
end

section
/-! Proofs about `GENKEY`: the loop over the classifier, and the same loop as draws and commands (R83, R176, R198). -/

namespace Sys2Proof.Machine
open Sys2Proof.Safety

/-! ## The loop (R198) -/

theorem genKeyIn_succ_of_ordinary {S : KeySets} {source : Nat → List Byte} {draw : Nat}
    (h : classify S (join8 (source draw)) = .ordinary) (fuel : Nat) :
    genKeyIn S source (fuel + 1) draw = some (source draw, draw + 1) := by
  obtain ⟨hweak, hsemi⟩ := classify_eq_ordinary_iff.1 h
  simp [genKeyIn, isWeakKey, isSemiWeakKey, hweak, hsemi]

theorem genKeyIn_succ_of_refused {S : KeySets} {source : Nat → List Byte} {draw : Nat}
    (h : classify S (join8 (source draw)) ≠ .ordinary) (fuel : Nat) :
    genKeyIn S source (fuel + 1) draw = genKeyIn S source fuel (draw + 1) := by
  rw [ne_eq, classify_eq_ordinary_iff, not_and_or, not_not, not_not] at h
  simp [genKeyIn, isWeakKey, isSemiWeakKey, h]

/-- The draws from `draw` up to `n` were refused. -/
def Refused (S : KeySets) (source : Nat → List Byte) (draw n : Nat) : Prop :=
  ∀ m, draw ≤ m → m < n → classify S (join8 (source m)) ≠ .ordinary

theorem refused_succ {S : KeySets} {source : Nat → List Byte} {draw n : Nat}
    (h : classify S (join8 (source draw)) ≠ .ordinary) (hrest : Refused S source (draw + 1) n) :
    Refused S source draw n := by
  intro m hlow hhigh
  by_cases hm : m = draw
  · exact hm ▸ h
  · exact hrest m (by omega) hhigh

/-- A key found is the first draw that is ordinary, and its number is before the next draw's. -/
theorem genKeyIn_eq_some {S : KeySets} {source : Nat → List Byte} {fuel draw next : Nat} {key : List Byte}
    (h : genKeyIn S source fuel draw = some (key, next)) :
    ∃ n, draw ≤ n ∧ n < draw + fuel ∧ key = source n ∧ next = n + 1 ∧
      classify S (join8 (source n)) = .ordinary ∧ Refused S source draw n := by
  induction fuel generalizing draw with
  | zero => cases h
  | succ fuel ih =>
    by_cases hord : classify S (join8 (source draw)) = .ordinary
    · rw [genKeyIn_succ_of_ordinary hord] at h
      cases h
      exact ⟨draw, le_rfl, by omega, rfl, rfl, hord, fun m hlow hhigh => by omega⟩
    · rw [genKeyIn_succ_of_refused hord] at h
      obtain ⟨n, hlow, hhigh, hkey, hnext, hn, hrefused⟩ := ih h
      exact ⟨n, by omega, by omega, hkey, hnext, hn, refused_succ hord hrefused⟩

theorem genKeyIn_eq_none_iff {S : KeySets} {source : Nat → List Byte} {fuel draw : Nat} :
    genKeyIn S source fuel draw = none ↔ Refused S source draw (draw + fuel) := by
  induction fuel generalizing draw with
  | zero => exact ⟨fun _ m hlow hhigh => by omega, fun _ => rfl⟩
  | succ fuel ih =>
    by_cases hord : classify S (join8 (source draw)) = .ordinary
    · rw [genKeyIn_succ_of_ordinary hord]
      exact ⟨fun h => (by cases h), fun h => absurd hord (h draw le_rfl (by omega))⟩
    · have hcount : draw + 1 + fuel = draw + (fuel + 1) := by omega
      rw [genKeyIn_succ_of_refused hord, ih, hcount]
      exact ⟨refused_succ hord, fun h m hlow hhigh => h m (by omega) hhigh⟩

/-- Settles O54: the loop stops at the first ordinary draw, and finds nothing exactly when all were refused. -/
theorem generatedKeysAreOrdinary : Obligations.GeneratedKeysAreOrdinary := by
  intro source fuel draw
  refine ⟨fun key next h => ?_, genKeyIn_eq_none_iff⟩
  obtain ⟨n, hlow, hhigh, rfl, hnext, hord, hrefused⟩ := genKeyIn_eq_some h
  exact ⟨hord, n, hlow, hhigh, rfl, hnext, hrefused⟩

/-! ## The two questions about a draw (R83) -/

/-- The response to a classification command (R170, R171). -/
def classResponse (test : Block → Bool) (key : List Byte) : List Byte :=
  if key.length = 8 then [0x00, 0x01, boolByte (test (join8 key))] else [0x01, 0x00]

theorem classifyBody_eq (test : Block → Bool) (key : List Byte) (s : State) :
    classifyBody test key s = { s with outbox := s.outbox ++ [classResponse test key] } := by
  unfold classResponse
  split_ifs with hlen
  · exact classifyBody_of_length_eq test hlen s
  · exact classifyBody_of_length_ne test hlen s

theorem classResponse_eq_answerFalse_iff {test : Block → Bool} {key : List Byte} :
    classResponse test key = answerFalse ↔ key.length = 8 ∧ test (join8 key) = false := by
  have hfalse : answerFalse = [0x00, 0x01, 0x00] := rfl
  unfold classResponse
  split_ifs with hlen
  · cases htest : test (join8 key) <;> simp [hfalse, hlen, boolByte]
  · simp [hfalse, hlen]

/-- The responses to the two questions about a draw. -/
def askResponses (P : Params) (key : List Byte) : List (List Byte) :=
  [classResponse (isWeakKey P.keySets) key, classResponse (isSemiWeakKey P.keySets) key]

/-- The engine answers both questions and changes nothing else. -/
theorem runBy_askClasses (P : Params) (key : List Byte) {s : State} (hlife : s.life ≠ .faulted) :
    runBy (execWith P) (askClasses key) s = .next { s with outbox := s.outbox ++ askResponses P key } := by
  have hweak := execWith_isweak P key hlife
  rw [classifyBody_eq] at hweak
  rw [askClasses, runBy_cons_of_next hweak]
  have hsemi := execWith_issemiweak P key
    (s := { s with outbox := s.outbox ++ [classResponse (isWeakKey P.keySets) key] }) hlife
  rw [classifyBody_eq] at hsemi
  rw [runBy_cons_of_next hsemi]
  simp [runBy, askResponses]

/-- Both questions are answered false exactly for an ordinary key of 8 bytes (R175). -/
theorem askResponses_eq_false_iff {P : Params} {key : List Byte} :
    askResponses P key = [answerFalse, answerFalse] ↔
      key.length = 8 ∧ classify P.keySets (join8 key) = .ordinary := by
  simp only [askResponses, List.cons.injEq, and_true, classResponse_eq_answerFalse_iff, classify_eq_ordinary_iff,
    isWeakKey, isSemiWeakKey, decide_eq_false_iff_not]
  constructor
  · rintro ⟨⟨hlen, hweak⟩, -, hsemi⟩
    exact ⟨hlen, hweak, hsemi⟩
  · rintro ⟨hlen, hweak, hsemi⟩
    exact ⟨⟨hlen, hweak⟩, hlen, hsemi⟩

/-! ## `GENKEY` as draws and commands (R83) -/

section
variable (P : Params) (source : Nat → List Byte) (fuel draw : Nat) {s : State}

/-- One draw of `GENKEY` outside `Faulted`: the key if both answers are false, and else the next draw. -/
theorem genKeyBy_succ (hlife : s.life ≠ .faulted) : genKeyBy (execWith P) source (fuel + 1) draw s =
    if askResponses P (source draw) = [answerFalse, answerFalse] then
      .next (some (source draw, draw + 1), { s with outbox := s.outbox ++ askResponses P (source draw) })
    else
      genKeyBy (execWith P) source fuel (draw + 1) { s with outbox := s.outbox ++ askResponses P (source draw) } := by
  rw [genKeyBy, runBy_askClasses P (source draw) hlife]
  simp only [newResponses, List.drop_left]

theorem genKeyBy_faulted (hlife : s.life = .faulted) :
    genKeyBy (execWith P) source (fuel + 1) draw s = .fault .noStepWhenFaulted := by
  simp only [genKeyBy, askClasses, runBy, execWith_of_faulted P _ hlife]

/-- The responses of a `GENKEY` run, two for each draw. -/
def genKeyResponses (P : Params) (source : Nat → List Byte) : (fuel draw : Nat) → List (List Byte)
  | 0, _ => []
  | fuel + 1, draw =>
    askResponses P (source draw) ++
      if classify P.keySets (join8 (source draw)) = .ordinary then [] else genKeyResponses P source fuel (draw + 1)

theorem genKeyResponses_eq_answers (hsource : ∀ n, (source n).length = 8) :
    ∀ f ∈ genKeyResponses P source fuel draw, f = [0x00, 0x01, 0x00] ∨ f = [0x00, 0x01, 0x01] := by
  have hanswer (test : Block → Bool) (n : Nat) :
      classResponse test (source n) = [0x00, 0x01, 0x00] ∨ classResponse test (source n) = [0x00, 0x01, 0x01] := by
    cases htest : test (join8 (source n)) <;> simp [classResponse, hsource, boolByte, htest]
  induction fuel generalizing draw with
  | zero => simp [genKeyResponses]
  | succ fuel ih =>
    intro f hf
    simp only [genKeyResponses, askResponses, List.cons_append, List.nil_append, List.mem_cons] at hf
    rcases hf with rfl | rfl | hf
    · exact hanswer _ draw
    · exact hanswer _ draw
    · split_ifs at hf
      · cases hf
      · exact ih (draw + 1) f hf

/-- A run that finds a key ends with the two answers false about it. -/
theorem genKeyResponses_of_found (hsource : ∀ n, (source n).length = 8) {key : List Byte} {next : Nat}
    (h : genKeyIn P.keySets source fuel draw = some (key, next)) :
    (genKeyResponses P source fuel draw).length = 2 * (next - draw) ∧
      ∃ earlier, genKeyResponses P source fuel draw = earlier ++ [answerFalse, answerFalse] := by
  induction fuel generalizing draw with
  | zero => cases h
  | succ fuel ih =>
    by_cases hord : classify P.keySets (join8 (source draw)) = .ordinary
    · rw [genKeyIn_succ_of_ordinary hord] at h
      cases h
      rw [genKeyResponses, if_pos hord, List.append_nil, askResponses_eq_false_iff.2 ⟨hsource draw, hord⟩]
      exact ⟨by simp, [], rfl⟩
    · rw [genKeyIn_succ_of_refused hord] at h
      obtain ⟨n, hlow, -, -, hnext, -⟩ := genKeyIn_eq_some h
      obtain ⟨hlen, earlier, hlast⟩ := ih (draw + 1) h
      rw [genKeyResponses, if_neg hord]
      refine ⟨?_, askResponses P (source draw) ++ earlier, by rw [hlast, List.append_assoc]⟩
      rw [List.length_append, hlen]
      simp only [askResponses, List.length_cons, List.length_nil]
      omega

theorem genKeyResponses_length_of_none (h : genKeyIn P.keySets source fuel draw = none) :
    (genKeyResponses P source fuel draw).length = 2 * fuel := by
  induction fuel generalizing draw with
  | zero => rfl
  | succ fuel ih =>
    have hord := genKeyIn_eq_none_iff.1 h draw le_rfl (by omega)
    rw [genKeyIn_succ_of_refused hord] at h
    rw [genKeyResponses, if_neg hord, List.length_append, ih (draw + 1) h]
    simp only [askResponses, List.length_cons, List.length_nil]
    omega

/-- Over 8-byte draws the commands find what the loop finds, and leave the engine with their responses only. -/
theorem genKeyBy_eq (hsource : ∀ n, (source n).length = 8) (hlife : s.life ≠ .faulted) :
    genKeyBy (execWith P) source fuel draw s =
      .next (genKeyIn P.keySets source fuel draw,
        { s with outbox := s.outbox ++ genKeyResponses P source fuel draw }) := by
  induction fuel generalizing draw s with
  | zero => simp [genKeyBy, genKeyIn, genKeyResponses]
  | succ fuel ih =>
    rw [genKeyBy_succ P source fuel draw hlife]
    by_cases hord : classify P.keySets (join8 (source draw)) = .ordinary
    · rw [if_pos (askResponses_eq_false_iff.2 ⟨hsource draw, hord⟩), genKeyIn_succ_of_ordinary hord, genKeyResponses,
        if_pos hord, List.append_nil]
    · have hrest := ih (draw + 1) (s := { s with outbox := s.outbox ++ askResponses P (source draw) }) hlife
      rw [if_neg fun h => hord (askResponses_eq_false_iff.1 h).2, hrest, genKeyIn_succ_of_refused hord,
        genKeyResponses, if_neg hord]
      simp only [List.append_assoc]

/-- Whatever the source draws, a key found by the commands is an ordinary key of 8 bytes, and `LIFE` is as it was. -/
theorem genKeyBy_found {key : List Byte} {next : Nat} {t : State} (hlife : s.life ≠ .faulted)
    (h : genKeyBy (execWith P) source fuel draw s = .next (some (key, next), t)) :
    t.life = s.life ∧ key.length = 8 ∧ classify P.keySets (join8 key) = .ordinary := by
  induction fuel generalizing draw s with
  | zero => cases h
  | succ fuel ih =>
    rw [genKeyBy_succ P source fuel draw hlife] at h
    split_ifs at h with hfalse
    · cases h
      exact ⟨rfl, askResponses_eq_false_iff.1 hfalse⟩
    · exact ih (draw + 1) (s := { s with outbox := s.outbox ++ askResponses P (source draw) }) hlife h

end

/-- Settles O59: the commands find what the loop finds; their responses are counted draw by draw. -/
theorem genkeyAsksTheEngine : Obligations.GenkeyAsksTheEngine := by
  intro P source fuel draw s hsource
  refine ⟨fun hlife => ⟨_, genKeyBy_eq P source fuel draw hsource hlife, ?_, ?_, ?_⟩, fun hlife hfuel => ?_⟩
  · exact genKeyResponses_eq_answers P source fuel draw hsource
  · exact fun _ _ h => genKeyResponses_of_found P source fuel draw hsource h
  · exact genKeyResponses_length_of_none P source fuel draw
  · obtain ⟨k, rfl⟩ := Nat.exists_eq_succ_of_ne_zero hfuel.ne'
    exact genKeyBy_faulted P source k draw hlife

/-- Settles O60: an ordinary key of 8 bytes passes every test of `CONSTRUCT`. -/
theorem generatedKeysConstruct : Obligations.GeneratedKeysConstruct := by
  intro P source fuel draw next s t dir key iv hlife hiv h
  obtain ⟨hlife', hkey, hord⟩ := genKeyBy_found P source fuel draw (by simp [hlife]) h
  obtain ⟨hweak, hsemi⟩ := classify_eq_ordinary_iff.1 hord
  rw [execWith_construct_of_empty P dir key iv (hlife'.trans hlife),
    constructBody_of_accepted P dir t hkey hweak hsemi hiv]

end Sys2Proof.Machine
end
